-- ==== Sys2Proof/Word.lean ====
section
/-!
DEFINITION. The plain word types of ZVC_CORE (spec/00_scope.md rules R10, R13, R14).
-/

namespace Sys2Proof

/-- A byte, which is also a Reed-Solomon symbol (R14). -/
abbrev Byte := BitVec 8

/-- A base-8 digit (R14). -/
abbrev Digit := BitVec 3

/-- A command word (R10, R80). -/
abbrev Word := BitVec 64

/-- The operand field of a command word, a response value and a session counter are 48 bits (R10). -/
abbrev Word48 := BitVec 48

/-- A linear block index (R10). -/
abbrev BlockIndex := BitVec 24

end Sys2Proof
end

