-- ==== Sys2Proof/Config.lean ====
section
/-!
DEFINITION. What an implementation fixes: the OPEN build parameters (spec/00_scope.md rule R9), the constants the
spec decided (R9), and the free contents of unwritten frame memory (spec/93_implementation_defined.md U1).
-/

namespace Sys2Proof

/-- The OPEN build-time parameters of R9. The model takes them as a record; no value is decided.
The record rides in `State` (assumption log 1) and no step writes it. -/
structure Params where
  /-- `K`, payload bytes per codeword -/
  K : Nat
  /-- `P`, parity bytes per codeword -/
  P : Nat
  /-- `T_LO`, low threshold of the dead zone -/
  tLo : Nat
  /-- `T_HI`, high threshold of the dead zone -/
  tHi : Nat
  /-- `W_REF`, reference frame width for rescaling -/
  wRef : Nat
  /-- `B_REF`, reference block side for rescaling -/
  bRef : Nat
  deriving DecidableEq, Repr

/-- `N = K + P`, the bytes of a codeword (R9). -/
def Params.N (p : Params) : Nat := p.P + p.K

/-- `T = floor(P / 2)`, the correctable symbol errors of a codeword (R9). -/
def Params.T (p : Params) : Nat := p.P / 2

/-- `PRIM`, the field polynomial of GF(256) (R9, R162). -/
def Config.prim : BitVec 15 := 0x11D

/-- `ALPHA`, the generator element (R9, R163). -/
def Config.alpha : Byte := 0x02

/-- `FCR`, the exponent of the first root of the code generator polynomial (R9, R166). -/
def Config.fcr : Nat := 0

/-- `PLACEHOLDER`, the digit stored for an indeterminate block (R9, R221). -/
def Config.placeholder : Digit := 0

/-- `PAD`, the byte appended to a short last chunk (R9, R174). -/
def Config.pad : Byte := 0x00

/-- `SNAP_T`, the snap threshold of the nearest-corner classifier (R9, R134). -/
def Config.snapT : Nat := 128

/-- The blank value of a frame byte (R241). -/
def Config.blank : Byte := 0x00

/-- The size in bytes of the physical frame array, `3 * 4095 * 4095` (R50). -/
def Config.frameCapacity : Nat := 50307075

/-- A parameter record from six free numbers. Whatever the numbers are the record meets R9, and every record
that meets R9 comes from some numbers (`ofFree_wellFormed`, `ofFree_onto` in Laws/Config.lean). -/
def Params.ofFree (k halfP lo hi w b : Nat) : Params where
  K := k % 255 + 1
  P := 2 * (halfP % ((254 - k % 255) / 2 + 1))
  tLo := lo % (hi % 256 + 1)
  tHi := hi % 256
  wRef := w % 4095 + 1
  bRef := b % (w % 4095 + 1) + 1

/-- A free number behind `K`: OPEN (R9, D3; assumption log 1). -/
opaque Config.freeK : Nat
/-- A free number behind `P`: OPEN (R9, D3; assumption log 1). -/
opaque Config.freeHalfP : Nat
/-- A free number behind `T_LO`: OPEN (R9, D3; assumption log 1). -/
opaque Config.freeTLo : Nat
/-- A free number behind `T_HI`: OPEN (R9, D3; assumption log 1). -/
opaque Config.freeTHi : Nat
/-- A free number behind `W_REF`: OPEN (R9, D3; assumption log 1). -/
opaque Config.freeWRef : Nat
/-- A free number behind `B_REF`: OPEN (R9, D3; assumption log 1). -/
opaque Config.freeBRef : Nat

/-- The parameters the block was built with: some record that meets R9, and nothing more is known of it. -/
def Config.build : Params :=
  Params.ofFree Config.freeK Config.freeHalfP Config.freeTLo Config.freeTHi Config.freeWRef Config.freeBRef

/-- U1: the byte of `FRAME` at an address that nothing has written since the hardware reset with that number:
an arbitrary but fixed byte, of which nothing can be proved (assumption log 2). -/
opaque Config.powerOnByte (epoch address : Nat) : Byte

end Sys2Proof
end

