-- ==== Sys2Proof/Syntax.lean ====
section
/-!
DEFINITION. The commands of ZVC_CORE, one constructor per row of spec/opcode_table.json. Each operand has exactly
the width of its field in the command word (spec/30_encoding.md rules R83, R85), so every term is a legal command.
-/

namespace Sys2Proof

/-- The operations of R85. -/
inductive Instr where
  /-- `SYS.RESET` (R271) -/
  | sysReset
  /-- `SYS.ABORT 4`, SinkUnavailable (R272) -/
  | sysAbortSink
  /-- `SYS.ABORT 5`, SourceUnavailable (R272) -/
  | sysAbortSource
  /-- `ACE.COLOROF d` (R102) -/
  | aceColorof (digit : BitVec 3)
  /-- `ACD.DIGITOF c` (R104) -/
  | acdDigitof (color : BitVec 24)
  /-- `BCC.SCORE p` (R133) -/
  | bccScore (pixel : BitVec 24)
  /-- `BCC.SNAP p` (R134) -/
  | bccSnap (pixel : BitVec 24)
  /-- `BCC.THRESH p` (R136) -/
  | bccThresh (pixel : BitVec 24)
  /-- `BCC.CLSNC i` (R138) -/
  | bccClsnc (index : BitVec 24)
  /-- `BCC.CLSTH i` (R142) -/
  | bccClsth (index : BitVec 24)
  /-- `BCC.CLASSIFY i` (R144) -/
  | bccClassify (index : BitVec 24)
  /-- `RSE.START` (R170) -/
  | rseStart
  /-- `RSE.BYTE m` (R171) -/
  | rseByte (byte : BitVec 8)
  /-- `RSE.PAR j` (R172) -/
  | rsePar (j : BitVec 8)
  /-- `RSD.START` (R180) -/
  | rsdStart
  /-- `RSD.BYTE b` (R181) -/
  | rsdByte (byte : BitVec 8)
  /-- `RSD.DECODE f` (R184) -/
  | rsdDecode (flag : BitVec 1)
  /-- `RSD.READ j` (R185) -/
  | rsdRead (j : BitVec 8)
  /-- `RSD.SYND j` (R186) -/
  | rsdSynd (j : BitVec 8)
  /-- `FLG.BLKCNT` (R114) -/
  | flgBlkcnt
  /-- `FLG.BLKORG i` (R115) -/
  | flgBlkorg (index : BitVec 24)
  /-- `FLG.CURRST` (R116) -/
  | flgCurrst
  /-- `FLG.CURNEXT` (R117) -/
  | flgCurnext
  /-- `FLG.RESCALE` (R118) -/
  | flgRescale
  /-- `SSP.START` (R220) -/
  | sspStart
  /-- `SSP.PUSH d, indet` (R221) -/
  | sspPush (indet : BitVec 1) (digit : BitVec 3)
  /-- `SSP.CWRD j` (R222) -/
  | sspCwrd (j : BitVec 8)
  /-- `SSP.CWPOP` (R223) -/
  | sspCwpop
  /-- `DSC.LOAD b` (R212) -/
  | dscLoad (byte : BitVec 8)
  /-- `DSC.NEXT` (R213) -/
  | dscNext
  /-- `DSC.EXPAND b` (R214) -/
  | dscExpand (byte : BitVec 8)
  /-- `ENC.START` (R241) -/
  | encStart
  /-- `ENC.BYTE b` (R244) -/
  | encByte (byte : BitVec 8)
  /-- `ENC.END` (R245) -/
  | encEnd
  /-- `DEC.START` (R249) -/
  | decStart
  /-- `DEC.FRAME` (R250) -/
  | decFrame
  /-- `DEC.BLOCK` (R251) -/
  | decBlock
  /-- `DEC.EOS` (R252) -/
  | decEos
  /-- `CSRR n` (R274) -/
  | csrr (csr : BitVec 4)
  /-- `CSRW GEOM_W, v` (R275) -/
  | csrwGeomW (value : BitVec 12)
  /-- `CSRW GEOM_H, v` (R275) -/
  | csrwGeomH (value : BitVec 12)
  /-- `CSRW GEOM_B, v` (R275) -/
  | csrwGeomB (value : BitVec 12)
  /-- `CSRW CLS_CTRL, v` (R275) -/
  | csrwClsCtrl (value : BitVec 1)
  /-- `CSRW TGT_LEN, v` (R275) -/
  | csrwTgtLen (value : BitVec 48)
  deriving DecidableEq, Repr

end Sys2Proof
end

