-- ==== Sys2Proof/Decode.lean ====
section
/-!
DEFINITION. The command decoder and the encoder (spec/30_encoding.md rules R81 to R88). The decoder is total on all
64-bit words and names the reason of each rejection; every rejection is the same fault, IllegalCommand (R86).
-/

namespace Sys2Proof

/-- Why a command word is illegal (R86). -/
inductive DecodeError where
  /-- `rsvd` is not 0 -/
  | reservedBits
  /-- the `op` byte is not in the table of R85 -/
  | unassignedOp
  /-- an `arg` bit above the operand, or above the width of the CSR written, is 1 -/
  | operandBits
  /-- `CSRW` to a read-only CSR -/
  | readOnlyCsr
  /-- `SYS.ABORT` with a code other than 4 or 5 -/
  | abortCode
  deriving DecidableEq, Repr

/-- The `op` byte of a command word (R81). -/
def opOf (w : Word) : BitVec 8 := w.extractLsb' 56 8

/-- The `rsvd` byte of a command word (R81). -/
def rsvdOf (w : Word) : BitVec 8 := w.extractLsb' 48 8

/-- The `arg` field of a command word (R81). -/
def argOf (w : Word) : Word48 := w.extractLsb' 0 48

/-- A command without an operand: all of `arg` is reserved (R83). -/
def noOperand (arg : Word48) (i : Instr) : Except DecodeError Instr :=
  if arg = 0 then .ok i else .error .operandBits

/-- A command whose operand is the low `n` bits of `arg`; the bits above are reserved (R83). -/
def withOperand (n : Nat) (arg : Word48) (mk : BitVec n → Instr) : Except DecodeError Instr :=
  if arg.toNat < 2 ^ n then .ok (mk (arg.setWidth n)) else .error .operandBits

/-- The command that an `op` byte and an `arg` field select when `rsvd` is 0: the opcode map R85. -/
def decodeOp (op : BitVec 8) (arg : Word48) : Except DecodeError Instr :=
  if op.extractLsb' 4 4 = 0xE#4 then noOperand arg (.csrr (op.extractLsb' 0 4))
  else
    match op with
    | 0x01#8 => noOperand arg .sysReset
    | 0x02#8 =>
      if arg = 4 then .ok .sysAbortSink
      else if arg = 5 then .ok .sysAbortSource
      else .error .abortCode
    | 0x10#8 => withOperand 3 arg .aceColorof
    | 0x20#8 => withOperand 24 arg .acdDigitof
    | 0x30#8 => withOperand 24 arg .bccScore
    | 0x31#8 => withOperand 24 arg .bccSnap
    | 0x32#8 => withOperand 24 arg .bccThresh
    | 0x33#8 => withOperand 24 arg .bccClsnc
    | 0x34#8 => withOperand 24 arg .bccClsth
    | 0x35#8 => withOperand 24 arg .bccClassify
    | 0x40#8 => noOperand arg .rseStart
    | 0x41#8 => withOperand 8 arg .rseByte
    | 0x42#8 => withOperand 8 arg .rsePar
    | 0x50#8 => noOperand arg .rsdStart
    | 0x51#8 => withOperand 8 arg .rsdByte
    | 0x52#8 => withOperand 1 arg .rsdDecode
    | 0x53#8 => withOperand 8 arg .rsdRead
    | 0x54#8 => withOperand 8 arg .rsdSynd
    | 0x60#8 => noOperand arg .flgBlkcnt
    | 0x61#8 => withOperand 24 arg .flgBlkorg
    | 0x62#8 => noOperand arg .flgCurrst
    | 0x63#8 => noOperand arg .flgCurnext
    | 0x64#8 => noOperand arg .flgRescale
    | 0x70#8 => noOperand arg .sspStart
    | 0x71#8 => withOperand 4 arg (fun a => .sspPush (a.extractLsb' 3 1) (a.extractLsb' 0 3))
    | 0x72#8 => withOperand 8 arg .sspCwrd
    | 0x73#8 => noOperand arg .sspCwpop
    | 0x80#8 => withOperand 8 arg .dscLoad
    | 0x81#8 => noOperand arg .dscNext
    | 0x82#8 => withOperand 8 arg .dscExpand
    | 0x90#8 => noOperand arg .encStart
    | 0x91#8 => withOperand 8 arg .encByte
    | 0x92#8 => noOperand arg .encEnd
    | 0xA0#8 => noOperand arg .decStart
    | 0xA1#8 => noOperand arg .decFrame
    | 0xA2#8 => noOperand arg .decBlock
    | 0xA3#8 => noOperand arg .decEos
    | 0xF2#8 => withOperand 12 arg .csrwGeomW
    | 0xF3#8 => withOperand 12 arg .csrwGeomH
    | 0xF4#8 => withOperand 12 arg .csrwGeomB
    | 0xF9#8 => withOperand 1 arg .csrwClsCtrl
    | 0xFA#8 => .ok (.csrwTgtLen arg)
    | _ => .error (if op.extractLsb' 4 4 = 0xF#4 then .readOnlyCsr else .unassignedOp)

/-- The decoder (R88): every word is one of the commands of R85 with its operand, or illegal for a named reason. -/
def decode (w : Word) : Except DecodeError Instr :=
  if rsvdOf w = 0 then decodeOp (opOf w) (argOf w) else .error .reservedBits

/-- The word of an `op` byte and an `arg` field, `rsvd` 0: `(op << 56) | arg` (R89). -/
def commandWord (op : BitVec 8) (arg : Word48) : Word := op ++ (0#8 ++ arg)

/-- The `op` byte of a command (R85). -/
def Instr.op : Instr → BitVec 8
  | .sysReset => 0x01
  | .sysAbortSink => 0x02
  | .sysAbortSource => 0x02
  | .aceColorof _ => 0x10
  | .acdDigitof _ => 0x20
  | .bccScore _ => 0x30
  | .bccSnap _ => 0x31
  | .bccThresh _ => 0x32
  | .bccClsnc _ => 0x33
  | .bccClsth _ => 0x34
  | .bccClassify _ => 0x35
  | .rseStart => 0x40
  | .rseByte _ => 0x41
  | .rsePar _ => 0x42
  | .rsdStart => 0x50
  | .rsdByte _ => 0x51
  | .rsdDecode _ => 0x52
  | .rsdRead _ => 0x53
  | .rsdSynd _ => 0x54
  | .flgBlkcnt => 0x60
  | .flgBlkorg _ => 0x61
  | .flgCurrst => 0x62
  | .flgCurnext => 0x63
  | .flgRescale => 0x64
  | .sspStart => 0x70
  | .sspPush _ _ => 0x71
  | .sspCwrd _ => 0x72
  | .sspCwpop => 0x73
  | .dscLoad _ => 0x80
  | .dscNext => 0x81
  | .dscExpand _ => 0x82
  | .encStart => 0x90
  | .encByte _ => 0x91
  | .encEnd => 0x92
  | .decStart => 0xA0
  | .decFrame => 0xA1
  | .decBlock => 0xA2
  | .decEos => 0xA3
  | .csrr n => 0xE#4 ++ n
  | .csrwGeomW _ => 0xF2
  | .csrwGeomH _ => 0xF3
  | .csrwGeomB _ => 0xF4
  | .csrwClsCtrl _ => 0xF9
  | .csrwTgtLen _ => 0xFA

/-- The `arg` field of a command (R83, R85). -/
def Instr.arg : Instr → Word48
  | .sysAbortSink => 4
  | .sysAbortSource => 5
  | .aceColorof d => d.setWidth 48
  | .acdDigitof c | .bccScore c | .bccSnap c | .bccThresh c => c.setWidth 48
  | .bccClsnc i | .bccClsth i | .bccClassify i | .flgBlkorg i => i.setWidth 48
  | .rseByte b | .rsdByte b | .dscLoad b | .dscExpand b | .encByte b => b.setWidth 48
  | .rsePar j | .rsdRead j | .rsdSynd j | .sspCwrd j => j.setWidth 48
  | .rsdDecode f => f.setWidth 48
  | .sspPush indet d => (indet ++ d).setWidth 48
  | .csrwGeomW v | .csrwGeomH v | .csrwGeomB v => v.setWidth 48
  | .csrwClsCtrl v => v.setWidth 48
  | .csrwTgtLen v => v
  | .sysReset | .rseStart | .rsdStart | .flgBlkcnt | .flgCurrst | .flgCurnext | .flgRescale | .sspStart
  | .sspCwpop | .dscNext | .encStart | .encEnd | .decStart | .decFrame | .decBlock | .decEos | .csrr _ => 0

/-- The encoder: the command word of an operation (R81, R82, R85). -/
def encode (i : Instr) : Word := commandWord i.op i.arg

/-- The instruction the decoder reads from a word numbered as spec/opcode_table.json numbers it. A command is one
64-bit word (R87), presented whole on the command port; the bits above `nbits` are 0. -/
def decodeTableWord (nbits w : Nat) : Option Instr :=
  match decode (BitVec.ofNat 64 (w % 2 ^ nbits)) with
  | .ok i => some i
  | .error _ => none

/-- One row of spec/opcode_table.json: a word `w` selects it when `w &&& mask = pattern` (R88). -/
structure OpcodeRow where
  /-- the bits the row fixes -/
  mask : Word
  /-- their values -/
  pattern : Word
  deriving DecidableEq, Repr

/-- Rows of unit SYS. -/
def opcodeRowsSys : List OpcodeRow := [
  ⟨0xffffffffffffffff, 0x0100000000000000⟩,
  ⟨0xffffffffffffffff, 0x0200000000000004⟩,
  ⟨0xffffffffffffffff, 0x0200000000000005⟩]

/-- Rows of unit ACE. -/
def opcodeRowsAce : List OpcodeRow := [
  ⟨0xfffffffffffffff8, 0x1000000000000000⟩]

/-- Rows of unit ACD. -/
def opcodeRowsAcd : List OpcodeRow := [
  ⟨0xffffffffff000000, 0x2000000000000000⟩]

/-- Rows of unit BCC. -/
def opcodeRowsBcc : List OpcodeRow := [
  ⟨0xffffffffff000000, 0x3000000000000000⟩,
  ⟨0xffffffffff000000, 0x3100000000000000⟩,
  ⟨0xffffffffff000000, 0x3200000000000000⟩,
  ⟨0xffffffffff000000, 0x3300000000000000⟩,
  ⟨0xffffffffff000000, 0x3400000000000000⟩,
  ⟨0xffffffffff000000, 0x3500000000000000⟩]

/-- Rows of unit RSE. -/
def opcodeRowsRse : List OpcodeRow := [
  ⟨0xffffffffffffffff, 0x4000000000000000⟩,
  ⟨0xffffffffffffff00, 0x4100000000000000⟩,
  ⟨0xffffffffffffff00, 0x4200000000000000⟩]

/-- Rows of unit RSD. -/
def opcodeRowsRsd : List OpcodeRow := [
  ⟨0xffffffffffffffff, 0x5000000000000000⟩,
  ⟨0xffffffffffffff00, 0x5100000000000000⟩,
  ⟨0xfffffffffffffffe, 0x5200000000000000⟩,
  ⟨0xffffffffffffff00, 0x5300000000000000⟩,
  ⟨0xffffffffffffff00, 0x5400000000000000⟩]

/-- Rows of unit FLG. -/
def opcodeRowsFlg : List OpcodeRow := [
  ⟨0xffffffffffffffff, 0x6000000000000000⟩,
  ⟨0xffffffffff000000, 0x6100000000000000⟩,
  ⟨0xffffffffffffffff, 0x6200000000000000⟩,
  ⟨0xffffffffffffffff, 0x6300000000000000⟩,
  ⟨0xffffffffffffffff, 0x6400000000000000⟩]

/-- Rows of unit SSP. -/
def opcodeRowsSsp : List OpcodeRow := [
  ⟨0xffffffffffffffff, 0x7000000000000000⟩,
  ⟨0xfffffffffffffff0, 0x7100000000000000⟩,
  ⟨0xffffffffffffff00, 0x7200000000000000⟩,
  ⟨0xffffffffffffffff, 0x7300000000000000⟩]

/-- Rows of unit DSC. -/
def opcodeRowsDsc : List OpcodeRow := [
  ⟨0xffffffffffffff00, 0x8000000000000000⟩,
  ⟨0xffffffffffffffff, 0x8100000000000000⟩,
  ⟨0xffffffffffffff00, 0x8200000000000000⟩]

/-- Rows of unit ENC. -/
def opcodeRowsEnc : List OpcodeRow := [
  ⟨0xffffffffffffffff, 0x9000000000000000⟩,
  ⟨0xffffffffffffff00, 0x9100000000000000⟩,
  ⟨0xffffffffffffffff, 0x9200000000000000⟩]

/-- Rows of unit DEC. -/
def opcodeRowsDec : List OpcodeRow := [
  ⟨0xffffffffffffffff, 0xa000000000000000⟩,
  ⟨0xffffffffffffffff, 0xa100000000000000⟩,
  ⟨0xffffffffffffffff, 0xa200000000000000⟩,
  ⟨0xffffffffffffffff, 0xa300000000000000⟩]

/-- Rows of unit CSR. -/
def opcodeRowsCsr : List OpcodeRow := [
  ⟨0xf0ffffffffffffff, 0xe000000000000000⟩,
  ⟨0xfffffffffffff000, 0xf200000000000000⟩,
  ⟨0xfffffffffffff000, 0xf300000000000000⟩,
  ⟨0xfffffffffffff000, 0xf400000000000000⟩,
  ⟨0xfffffffffffffffe, 0xf900000000000000⟩,
  ⟨0xffff000000000000, 0xfa00000000000000⟩]

/-- The rows of R85 as spec/opcode_table.json lists them (R88). -/
def opcodeRows : List OpcodeRow :=
  opcodeRowsSys ++ opcodeRowsAce ++ opcodeRowsAcd ++ opcodeRowsBcc ++ opcodeRowsRse ++ opcodeRowsRsd ++
  opcodeRowsFlg ++ opcodeRowsSsp ++ opcodeRowsDsc ++ opcodeRowsEnc ++ opcodeRowsDec ++ opcodeRowsCsr

end Sys2Proof
end

