-- ==== Sys2Proof/Machine/State.lean ====
section
/-!
DEFINITION. The state of ZVC_CORE (spec/10_state.md), the outcomes of a command as data, the state after reset, and
the reasons the model itself can stop.
-/

namespace Sys2Proof.Machine

/-- The fault kinds of R290. `IndeterminateBlock` is not one of them (R291). -/
inductive FaultKind where
  | unknownColor
  | uncorrectableCodeword
  | sourceExhaustedEarly
  | sinkUnavailable
  | sourceUnavailable
  | illegalCommand
  | sequenceError
  | configError
  | operandRange
  deriving DecidableEq, Repr

/-- A colour, and a pixel: three unsigned channels (R14). -/
structure Color where
  r : Byte
  g : Byte
  b : Byte
  deriving DecidableEq, Repr

/-- The two classifier strategies, `CLS_CTRL.STRAT` 0 and 1 (R41, R130). -/
inductive Strategy where
  | nearestCorner
  | thresholded
  deriving DecidableEq, Repr

/-- An output of an operation that leaves the block (R18, R242, R253). -/
inductive Event where
  /-- the bytes of `FRAME` at addresses 0 upward when a frame is emitted (R242) -/
  | emitFrame (img : List Byte)
  /-- one byte of the decoded payload (R253) -/
  | outByte (b : Byte)
  deriving DecidableEq, Repr

/-- The response to a command (R80, R84). -/
structure Response where
  status : BitVec 4
  rsp : Word48
  events : List Event
  deriving DecidableEq, Repr

/-- What the host does between two steps (R312; assumption logs 3, 4, 5). -/
inductive HostAction where
  /-- present a command word (R80, R312 a) -/
  | command (w : Word)
  /-- overwrite the addressable range of `FRAME` with a raster (R312 b) -/
  | loadFrame (raster : List Byte)
  /-- assert the hardware reset (R312 d, R320) -/
  | hardwareReset
  deriving DecidableEq, Repr

/-- The bytes of `FRAME` that something has written since the hardware reset, as (address, byte) pairs with strictly
rising addresses. An address that is not listed has not been written (R67; assumption log 2). -/
abbrev Memory := List Host.Cell

/-- The complete state of R20, the build parameters of R9, and the command port (R80) with what the host does. -/
structure State where
  /-- the build parameters; constants, no step writes them (R9, R20; assumption log 1) -/
  cfg : Params
  /-- `CUR`, the block cursor (R24) -/
  cur : BitVec 24
  /-- `DSC_BYTE`, the byte whose digits are pending (R23) -/
  dscByte : Byte
  /-- `DSC_PH`, how many of its digits are not yet delivered (R23) -/
  dscPh : BitVec 2
  /-- `DACC`, the partial-digit accumulator (R23) -/
  dacc : BitVec 6
  /-- `DCNT`, the number of digits in it (R23) -/
  dcnt : BitVec 2
  /-- `CWBUF`, the partial-codeword accumulator, N bytes (R23) -/
  cwbuf : List Byte
  /-- `CWCNT`, the number of bytes in it (R23) -/
  cwcnt : BitVec 8
  /-- `CFLAG`, the corruption flag of the codeword in progress (R23, R26) -/
  cflag : Bool
  /-- `CWIDX`, the index of the codeword in progress (R23) -/
  cwidx : Word48
  /-- `PAR`, the parity shift register, P bytes (R23) -/
  par : List Byte
  /-- `RSE_CNT`, message bytes taken into the current codeword (R23) -/
  rseCnt : BitVec 8
  /-- `RSD_BUF`, the codeword under decode, N bytes (R23) -/
  rsdBuf : List Byte
  /-- `RSD_CNT`, bytes loaded into it (R23) -/
  rsdCnt : BitVec 8
  /-- `RSD_OK`, it has been decoded and may be read (R23) -/
  rsdOk : Bool
  /-- `OUT_CNT`, payload bytes output in this decode session (R23) -/
  outCnt : Word48
  /-- `FRAME_VALID`, `FRAME` holds a source frame not yet consumed (R23) -/
  frameValid : Bool
  /-- `LEN_SET`, `TGT_LEN` was written since reset (R23, R42) -/
  lenSet : Bool
  /-- `FAULT`, the latched fault, `none` when its code is 0 (R31) -/
  fault : Option FaultKind
  /-- `FINFO`, the information latched with it (R32) -/
  finfo : Word48
  /-- `GEOM_W`, the frame width in pixels (R33) -/
  geomW : BitVec 12
  /-- `GEOM_H`, the frame height in pixels (R34) -/
  geomH : BitVec 12
  /-- `GEOM_B`, the block side in pixels (R35) -/
  geomB : BitVec 12
  /-- `CLS_CTRL.STRAT` (R41) -/
  clsCtrl : Strategy
  /-- `TGT_LEN`, the target payload length (R42) -/
  tgtLen : Word48
  /-- `FRAME`, the bytes written (R50, R67) -/
  frame : Memory
  /-- the model's own: how many hardware resets there were, the index of the free contents of `FRAME` (log 2) -/
  frameEpoch : Nat
  /-- the model's own: what the host does next, the next first (R80, R312; log 3) -/
  inbox : List HostAction
  /-- the model's own: the response to the last command, `none` when there was none (R80, R84; log 3) -/
  response : Option Response
  deriving DecidableEq, Repr

/-- The state of a block with these parameters after the hardware reset (R53, R320): every register 0, the arrays all
0 at their lengths, nothing of `FRAME` written. -/
def State.init (cfg : Params) : State where
  cfg := cfg
  cur := 0
  dscByte := 0
  dscPh := 0
  dacc := 0
  dcnt := 0
  cwbuf := List.replicate cfg.N 0
  cwcnt := 0
  cflag := false
  cwidx := 0
  par := List.replicate cfg.P 0
  rseCnt := 0
  rsdBuf := List.replicate cfg.N 0
  rsdCnt := 0
  rsdOk := false
  outCnt := 0
  frameValid := false
  lenSet := false
  fault := none
  finfo := 0
  geomW := 0
  geomH := 0
  geomB := 0
  clsCtrl := .nearestCorner
  tgtLen := 0
  frame := []
  frameEpoch := 0
  inbox := []
  response := none

/-- The machine right after reset (R53, R320), built with the OPEN parameters of R9. -/
def State.reset : State := State.init Config.build

/-- The reasons the model stops where no rule gives the machine an effect. No fault of the spec is here: those are
latched in `State.fault` and the machine goes on (R296, R298). -/
inductive Fault where
  /-- Raised by ENC.BYTE, ENC.END and DEC.BLOCK when they need the block at `CUR`, the geometry is legal and
  `CUR >= CNT`. `origin` is defined only below `CNT` (R112) and R24 rules such a state out, so no run from reset gets
  here. Safe: the model stops (assumption log 8). -/
  | cursorOutsideGrid
  deriving DecidableEq, Repr

/-- The reasons the model gives no meaning to a step. -/
inductive Refusal where
  /-- Raised by an arm of `exec` whose instruction has no meaning yet; no arm is left. Safe. -/
  | notModelled (mnemonic : String)
  /-- Raised by a host load whose raster is not the `3 * GEOM_W * GEOM_H` bytes of the addressable range; R312 lets
  the host do no such thing. Safe: the model stops (assumption log 4). -/
  | rasterSize
  deriving DecidableEq, Repr

end Sys2Proof.Machine
end

