-- ==== Sys2Proof/Machine/Operands.lean ====
section
/-!
DEFINITION. The operand and response forms: colours as words (spec/30_encoding.md R83), digits and bytes
(spec/44_digit_converter_and_packer.md R210, R211), and the fields of a response value (R84, R85).
-/

namespace Sys2Proof.Machine

/-- A 24-bit word as a colour: red most significant (R14, R83). -/
def colorOfWord (w : BitVec 24) : Color := ⟨w.extractLsb' 16 8, w.extractLsb' 8 8, w.extractLsb' 0 8⟩

/-- A colour as the 24-bit word of its red, green and blue bytes (R14). -/
def Color.toWord (c : Color) : BitVec 24 := c.r ++ (c.g ++ c.b)

/-- `digits(b)`, most significant first (R210). -/
def digitsOf (b : Byte) : Digit × Digit × Digit :=
  (BitVec.ofNat 3 (b.toNat / 64), BitVec.ofNat 3 (b.toNat / 8 % 8), BitVec.ofNat 3 (b.toNat % 8))

/-- `join(d0, d1, d2)`: bit 8 of the 9-bit value is dropped (R211). -/
def joinDigits (d0 d1 d2 : Digit) : Byte := BitVec.ofNat 8 (64 * d0.toNat + 8 * d1.toNat + d2.toNat)

/-- A one-bit field (R13). -/
def bit (b : Bool) : BitVec 1 := BitVec.ofBool b

/-- A response value that is one unsigned field at bit 0, zero-extended (R84). -/
def field {n : Nat} (v : BitVec n) : Word48 := v.setWidth 48

/-- A number as a response value. -/
def numField (n : Nat) : Word48 := BitVec.ofNat 48 n

/-- `rsp[23:12]` and `rsp[11:0]`, a block origin (R115). -/
def originField (x y : Nat) : Word48 := field (BitVec.ofNat 12 x ++ BitVec.ofNat 12 y)

/-- `rsp[24]` over `rsp[23:0]`: the WRAP of `FLG.CURNEXT` and the INDET of a classifier (R117, R131). -/
def flagged (flag : Bool) (v : BitVec 24) : Word48 := field (bit flag ++ v)

/-- The three digits of `DSC.EXPAND`: `rsp[8:6]`, `rsp[5:3]`, `rsp[2:0]` (R214). -/
def digitsField (d0 d1 d2 : Digit) : Word48 := field (d0 ++ (d1 ++ d2))

/-- The response of `DSC.NEXT`: digits left in `rsp[4:3]`, the digit in `rsp[2:0]` (R213). -/
def nextField (left : BitVec 2) (d : Digit) : Word48 := field (left ++ d)

/-- The response of `SSP.PUSH`: CFLAG, CW_DONE, BYTE_DONE, the byte (R221). -/
def pushField (cflag cwDone byteDone : Bool) (byte : Byte) : Word48 :=
  field (bit cflag ++ (bit cwDone ++ (bit byteDone ++ byte)))

/-- The response of `DEC.BLOCK`: bytes output in `rsp[15:8]`, INDET, DONE, WRAP in `rsp[2:0]` (R251). -/
def blockField (nout : Nat) (indet done wrap : Bool) : Word48 :=
  field (BitVec.ofNat 8 nout ++ (0#5 ++ (bit indet ++ (bit done ++ bit wrap))))

end Sys2Proof.Machine
end

