-- ==== Sys2Proof/Machine/Ops.lean ====
section
/-!
DEFINITION. The named operations over memory and registers: the frame memory (spec/20_memory.md), the response to a
command (spec/30_encoding.md R84), taking a fault and the faulted state (spec/60_exceptions.md R296, R298), and the
two resets, which are the only return from a fault (spec/70_reset_and_hazards.md R320).
-/

namespace Sys2Proof.Machine

/-! ### The frame memory -/

/-- The byte that something wrote at an address, if anything did. -/
def Memory.lookup : Memory → Nat → Option Byte
  | [], _ => none
  | (b, v) :: m, a => if a = b then some v else Memory.lookup m a

/-- `MemWrite(a, 1, v)` (R62), keeping the addresses strictly rising. -/
def Memory.write : Memory → Nat → Byte → Memory
  | [], a, v => [(a, v)]
  | (b, w) :: m, a, v =>
    if a < b then (a, v) :: (b, w) :: m
    else if a = b then (a, v) :: m
    else (b, w) :: Memory.write m a v

/-- Addresses strictly rising from a lower bound, all inside the physical array (R50). -/
def Memory.risingFrom : Nat → Memory → Bool
  | _, [] => true
  | lo, (a, _) :: m => decide (lo ≤ a) && decide (a < Config.frameCapacity) && Memory.risingFrom (a + 1) m

/-- The canonical form of the memory: one entry per written address, in rising order. An unlisted address reads as
"nothing has written it", which no entry says. -/
def Memory.wf (m : Memory) : Bool := Memory.risingFrom 0 m

/-- The bytes of a list as cells at consecutive addresses from `a`. -/
def cellsFrom (a : Nat) : List Byte → Memory
  | [] => []
  | v :: vs => (a, v) :: cellsFrom (a + 1) vs

/-- `MemWrite` of a list of bytes at addresses 0 upward: a whole frame at once (R65, R241, R312). -/
def Memory.writeFrame (m : Memory) (bytes : List Byte) : Memory :=
  cellsFrom 0 bytes ++ m.filter (fun c => decide (bytes.length ≤ c.1))

/-- `MemRead(a, 1)` (R62): the byte last written, or the free byte of U1 where nothing has written since the hardware
reset (R67). -/
def State.readByte (s : State) (a : Nat) : Byte :=
  (Memory.lookup s.frame a).getD (Config.powerOnByte s.frameEpoch a)

/-- The number of addressable bytes of `FRAME`, `3 * GEOM_W * GEOM_H` (R50). -/
def State.frameBytes (s : State) : Nat := 3 * s.geomW.toNat * s.geomH.toNat

/-- The address of the pixel at column `x`, row `y` (R63). -/
def State.pixelAddress (s : State) (x y : Nat) : Nat := 3 * (y * s.geomW.toNat + x)

/-- `Pix(x, y)` (R15, R61, R63). -/
def State.pixel (s : State) (x y : Nat) : Color :=
  ⟨s.readByte (s.pixelAddress x y), s.readByte (s.pixelAddress x y + 1), s.readByte (s.pixelAddress x y + 2)⟩

/-- `SetPix` at a pixel address: red, green, blue at rising addresses (R15, R61). -/
def Memory.setPixel (m : Memory) (a : Nat) (c : Color) : Memory :=
  Memory.write (Memory.write (Memory.write m a c.r) (a + 1) c.g) (a + 2) c.b

/-- The bytes of the addressable range in address order: the image of an `EmitFrame` (R242). -/
def State.frameImage (s : State) : List Byte := (List.range s.frameBytes).map s.readByte

/-- Every byte of the addressable range written with the blank value (R241). -/
def State.blankFrame (s : State) : State :=
  { s with frame := Memory.writeFrame s.frame (List.replicate s.frameBytes Config.blank) }

/-! ### Responses and faults -/

/-- The code of a fault kind (R290). -/
def faultCode : FaultKind → BitVec 4
  | .unknownColor => 1
  | .uncorrectableCodeword => 2
  | .sourceExhaustedEarly => 3
  | .sinkUnavailable => 4
  | .sourceUnavailable => 5
  | .illegalCommand => 6
  | .sequenceError => 7
  | .configError => 8
  | .operandRange => 9

/-- A completed command: status 0, its value and its events (R84). -/
def State.answer (s : State) (rsp : Word48) (events : List Event) : State :=
  { s with response := some ⟨0, rsp, events⟩ }

/-- TAKING A FAULT (R296): applied to the state before the command, so none of the command's own writes or events
happen; `FAULT` gets the code, `FINFO` the information, the response is the code with no value and no events. There is
no transfer of control and no saved state. -/
def State.takeFault (k : FaultKind) (info : Word48) (s : State) : State :=
  { s with fault := some k, finfo := info, response := some ⟨faultCode k, 0, []⟩ }

/-- A command to a faulted block is refused: status 0xF and no other change (R298). -/
def State.refuse (s : State) : State := { s with response := some ⟨0xF, 0, []⟩ }

/-- Why a command does not complete. -/
inductive Stop where
  /-- `raise F(info)` (R15): a fault of the spec, latched (R296) -/
  | raised (k : FaultKind) (info : Word48)
  /-- the model itself stops -/
  | model (f : Fault)
  deriving DecidableEq, Repr

/-- What a command that completes leaves: the state, the response value and the events (R16). -/
structure Done where
  state : State
  rsp : Word48 := 0
  events : List Event := []
  deriving DecidableEq, Repr

/-- `raise F(info)` as the result of a command. -/
def raised {α : Type} (k : FaultKind) (info : Word48) : Except Stop α := .error (.raised k info)

/-- The outcome of a command that began in `s` (R16): all of its effects, or the fault entry of R296 from `s`. -/
def finish (s : State) : Except Stop Done → Host.Outcome State Fault Refusal
  | .ok d => .next (d.state.answer d.rsp d.events)
  | .error (.raised k info) => .next (s.takeFault k info)
  | .error (.model f) => .fault f

/-- A command that a faulted block refuses: every one but `SYS.RESET` and `CSRR` (R294, R298). -/
def command (s : State) (body : Except Stop Done) : Host.Outcome State Fault Refusal :=
  match s.fault with
  | some _ => .next s.refuse
  | none => finish s body

/-! ### Reset: the only exit from the faulted state (R299) -/

/-- The registers after either reset (R320), `FRAME` and the command port kept: the effect of `SYS.RESET` (R271). -/
def State.resetRegisters (s : State) : State :=
  { State.init s.cfg with
    frame := s.frame
    frameEpoch := s.frameEpoch
    inbox := s.inbox
    response := s.response }

/-- The hardware reset (R320, R312 d): the registers as after `SYS.RESET`, the contents of `FRAME` unspecified again,
no response outstanding (assumption log 5). -/
def State.hardwareReset (s : State) : State :=
  { State.init s.cfg with
    frameEpoch := s.frameEpoch + 1
    inbox := s.inbox }

/-! ### The host's other actions -/

/-- The host loads a source frame: the whole addressable range gets the raster (R312 b, R339; assumption log 4). -/
def hostLoad (raster : List Byte) (s : State) : Host.Outcome State Fault Refusal :=
  if raster.length = s.frameBytes then .next { s with frame := Memory.writeFrame s.frame raster }
  else .refused .rasterSize

/-- An illegal command word: `IllegalCommand` with the `op` byte (R86, R290). -/
def illegalCommand (w : Word) (s : State) : Host.Outcome State Fault Refusal :=
  command s (raised .illegalCommand ((opOf w).setWidth 48))

end Sys2Proof.Machine
end

