-- ==== Sys2Proof/Machine/Flags.lean ====
section
/-!
DEFINITION. The derived registers and the status predicates (spec/10_state.md R26, R30, R36 to R38), and every CSR as
it reads (R46). The block has no condition codes; these play that role.
-/

namespace Sys2Proof.Machine

/-- `COLS`, 0 when `B = 0` (R36, R110). -/
def State.cols (s : State) : Nat := if s.geomB = 0 then 0 else s.geomW.toNat / s.geomB.toNat

/-- `ROWS`, 0 when `B = 0` (R37, R110). -/
def State.rows (s : State) : Nat := if s.geomB = 0 then 0 else s.geomH.toNat / s.geomB.toNat

/-- `CNT = COLS * ROWS` (R38, R110). The geometry is legal when it is above 0. -/
def State.cnt (s : State) : Nat := s.cols * s.rows

/-- `DONE`: `OUT_CNT >= TGT_LEN` (R30). -/
def State.done (s : State) : Bool := decide (s.tgtLen.toNat ≤ s.outCnt.toNat)

/-- `CW_FULL`: `CWCNT = N` (R30). -/
def State.cwFull (s : State) : Bool := decide (s.cwcnt.toNat = s.cfg.N)

/-- The WRAP condition: the next advance of `CUR` completes the frame (R24, R117). -/
def State.lastBlock (s : State) : Bool := decide (s.cur.toNat + 1 = s.cnt)

/-- The code in `FAULT`, 0 when not faulted (R31). -/
def State.faultField (s : State) : BitVec 4 :=
  match s.fault with
  | none => 0
  | some k => faultCode k

/-- CSR 0 `STATUS` (R30): from bit 13 down LEN_SET, RSD_OK, DSC_PH, DCNT, CW_FULL, DONE, CFLAG, FRAME_VALID, FAULT. -/
def State.statusWord (s : State) : Word48 :=
  field (bit s.lenSet ++ (bit s.rsdOk ++ (s.dscPh ++ (s.dcnt ++
    (bit s.cwFull ++ (bit s.done ++ (bit s.cflag ++ (bit s.frameValid ++ s.faultField))))))))

/-- CSR 13 `PARAMS0`: N, K, P (R45). -/
def State.params0 (s : State) : Word48 :=
  field (BitVec.ofNat 8 s.cfg.N ++ (BitVec.ofNat 8 s.cfg.K ++ BitVec.ofNat 8 s.cfg.P))

/-- CSR 14 `PARAMS1`: T_HI, T_LO (R45). -/
def State.params1 (s : State) : Word48 := field (BitVec.ofNat 8 s.cfg.tHi ++ BitVec.ofNat 8 s.cfg.tLo)

/-- CSR 15 `PARAMS2`: W_REF, B_REF (R45). -/
def State.params2 (s : State) : Word48 := field (BitVec.ofNat 12 s.cfg.wRef ++ BitVec.ofNat 12 s.cfg.bRef)

/-- `CLS_CTRL` as it reads (R41). -/
def strategyBit : Strategy → BitVec 1
  | .nearestCorner => 0
  | .thresholded => 1

/-- `CLS_CTRL` as it is written (R41). -/
def strategyOf (v : BitVec 1) : Strategy := if v = 0 then .nearestCorner else .thresholded

/-- The value of CSR `n` (R46). Derived CSRs are computed on reading (R274). -/
def csrValue (n : BitVec 4) (s : State) : Word48 :=
  match n with
  | 0#4 => s.statusWord
  | 1#4 => s.finfo
  | 2#4 => field s.geomW
  | 3#4 => field s.geomH
  | 4#4 => field s.geomB
  | 5#4 => numField s.cols
  | 6#4 => numField s.rows
  | 7#4 => numField s.cnt
  | 8#4 => field s.cur
  | 9#4 => field (strategyBit s.clsCtrl)
  | 10#4 => s.tgtLen
  | 11#4 => s.outCnt
  | 12#4 => s.cwidx
  | 13#4 => s.params0
  | 14#4 => s.params1
  | _ => s.params2

end Sys2Proof.Machine
end

