-- ==== Sys2Proof/Machine/Alphabet.lean ====
section
/-!
DEFINITION. The colour alphabet and units ACE and ACD (spec/40_alphabet.md). Both are stateless.
-/

namespace Sys2Proof.Machine

/-- `COLOR_ROM[d]` (R100). The pairing is a table, not the binary code of the channels. -/
def colorRom (d : Digit) : Color :=
  match d with
  | 0#3 => ⟨0, 0, 0⟩
  | 1#3 => ⟨255, 0, 0⟩
  | 2#3 => ⟨0, 255, 0⟩
  | 3#3 => ⟨0, 0, 255⟩
  | 4#3 => ⟨255, 255, 0⟩
  | 5#3 => ⟨0, 255, 255⟩
  | 6#3 => ⟨255, 0, 255⟩
  | _ => ⟨255, 255, 255⟩

/-- The digits in order. -/
def allDigits : List Digit := [0, 1, 2, 3, 4, 5, 6, 7]

/-- `digitOf(c)`: exact-match inverse lookup, `none` for `fail(UnknownColor)` (R103). -/
def digitOf (c : Color) : Option Digit := allDigits.find? (fun d => decide (colorRom d = c))

/-- `ACE.COLOROF d` (R102). -/
def execAceColorof (d : BitVec 3) (s : State) : Host.Outcome State Fault Refusal :=
  command s (.ok ⟨s, field (colorRom d).toWord, []⟩)

/-- `ACD.DIGITOF c` (R104). -/
def execAcdDigitof (c : BitVec 24) (s : State) : Host.Outcome State Fault Refusal :=
  command s
    (match digitOf (colorOfWord c) with
     | some d => .ok ⟨s, field d, []⟩
     | none => raised .unknownColor (field c))

end Sys2Proof.Machine
end

