-- ==== Sys2Proof/Machine/System.lean ====
section
/-!
DEFINITION. System operations and CSR access (spec/46_system.md).
-/

namespace Sys2Proof.Machine

/-- A geometry write also restarts the grid: `CUR` and `FRAME_VALID` become 0 (R40). -/
def State.restartGrid (s : State) : State := { s with cur := 0, frameValid := false }

/-- `SYS.RESET` (R271): in every state, the faulted one included. -/
def execSysReset (s : State) : Host.Outcome State Fault Refusal := finish s (.ok ⟨s.resetRegisters, 0, []⟩)

/-- `SYS.ABORT 4` (R272): always faults. -/
def execSysAbortSink (s : State) : Host.Outcome State Fault Refusal := command s (raised .sinkUnavailable 0)

/-- `SYS.ABORT 5` (R272): always faults. -/
def execSysAbortSource (s : State) : Host.Outcome State Fault Refusal := command s (raised .sourceUnavailable 0)

/-- `CSRR n` (R274): in every state, the faulted one included; no read has a side effect. -/
def execCsrr (n : BitVec 4) (s : State) : Host.Outcome State Fault Refusal := finish s (.ok ⟨s, csrValue n s, []⟩)

/-- `CSRW GEOM_W, v` (R275, R40). -/
def execCsrwGeomW (v : BitVec 12) (s : State) : Host.Outcome State Fault Refusal :=
  command s (.ok ⟨{ s.restartGrid with geomW := v }, 0, []⟩)

/-- `CSRW GEOM_H, v` (R275, R40). -/
def execCsrwGeomH (v : BitVec 12) (s : State) : Host.Outcome State Fault Refusal :=
  command s (.ok ⟨{ s.restartGrid with geomH := v }, 0, []⟩)

/-- `CSRW GEOM_B, v` (R275, R40). -/
def execCsrwGeomB (v : BitVec 12) (s : State) : Host.Outcome State Fault Refusal :=
  command s (.ok ⟨{ s.restartGrid with geomB := v }, 0, []⟩)

/-- `CSRW CLS_CTRL, v` (R275, R41). -/
def execCsrwClsCtrl (v : BitVec 1) (s : State) : Host.Outcome State Fault Refusal :=
  command s (.ok ⟨{ s with clsCtrl := strategyOf v }, 0, []⟩)

/-- `CSRW TGT_LEN, v` (R275, R42): also sets `LEN_SET`. -/
def execCsrwTgtLen (v : Word48) (s : State) : Host.Outcome State Fault Refusal :=
  command s (.ok ⟨{ s with tgtLen := v, lenSet := true }, 0, []⟩)

end Sys2Proof.Machine
end

