-- ==== Sys2Proof/Machine/Layout.lean ====
section
/-!
DEFINITION. Unit FLG: the block geometry and the block cursor (spec/41_frame_layout.md).
-/

namespace Sys2Proof.Machine

/-- `origin(i)`, the pixel column and row of the top-left pixel of block `i` (R112). -/
def State.origin (s : State) (i : Nat) : Nat × Nat :=
  (i % s.cols * s.geomB.toNat, i / s.cols * s.geomB.toNat)

/-- The pixels of block `i` in row-major order inside the block (R112, R137). -/
def State.blockPixels (s : State) (i : Nat) : List (Nat × Nat) :=
  (List.range s.geomB.toNat).flatMap fun dy =>
    (List.range s.geomB.toNat).map fun dx => ((s.origin i).1 + dx, (s.origin i).2 + dy)

/-- A command on block `i`: the geometry must be legal and the index below `CNT` (R115, R138, R142, R144). -/
def onBlock (s : State) (op : Word48) (i : BlockIndex) (body : Except Stop Done) : Except Stop Done :=
  if s.cnt = 0 then raised .configError op
  else if s.cnt ≤ i.toNat then raised .operandRange op
  else body

/-- `CUR` moved to the next block, to 0 after the last (R24, R117). -/
def State.advance (s : State) : State := { s with cur := if s.lastBlock then 0 else s.cur + 1 }

/-- `FLG.BLKCNT` (R114). -/
def execFlgBlkcnt (s : State) : Host.Outcome State Fault Refusal := command s (.ok ⟨s, numField s.cnt, []⟩)

/-- `FLG.BLKORG i` (R115). -/
def execFlgBlkorg (i : BlockIndex) (s : State) : Host.Outcome State Fault Refusal :=
  command s (onBlock s 0x61 i (.ok ⟨s, originField (s.origin i.toNat).1 (s.origin i.toNat).2, []⟩))

/-- `FLG.CURRST` (R116). -/
def execFlgCurrst (s : State) : Host.Outcome State Fault Refusal := command s (.ok ⟨{ s with cur := 0 }, 0, []⟩)

/-- `FLG.CURNEXT` (R117): the old cursor and WRAP. -/
def execFlgCurnext (s : State) : Host.Outcome State Fault Refusal :=
  command s
    (if s.cnt = 0 then raised .configError 0x63
     else .ok ⟨s.advance, flagged s.lastBlock s.cur, []⟩)

/-- The block side that the observed width gives (R118): both divisions are floor divisions. -/
def State.rescaledSide (s : State) : Nat := s.geomW.toNat / (s.cfg.wRef / s.cfg.bRef)

/-- `FLG.RESCALE` (R118): `ConfigError` when the side is 0, which includes `GEOM_W = 0`. The side never exceeds
`GEOM_W`, so it fits `GEOM_B` (assumption log 9). -/
def execFlgRescale (s : State) : Host.Outcome State Fault Refusal :=
  command s
    (if s.geomW = 0 ∨ s.rescaledSide = 0 then raised .configError 0x64
     else .ok ⟨{ s.restartGrid with geomB := BitVec.ofNat 12 s.rescaledSide },
               field (BitVec.ofNat 12 s.rescaledSide), []⟩)

end Sys2Proof.Machine
end

