-- ==== Sys2Proof/Machine/Classifier.lean ====
section
/-!
DEFINITION. Unit BCC: the block classifier (spec/42_block_classifier.md). The unit is stateless.
-/

namespace Sys2Proof.Machine

/-- A classifier result: an explicit tagged sum, not a sentinel colour (R14, R131). -/
inductive ClassResult where
  | resolved (c : Color)
  | indeterminate
  deriving DecidableEq, Repr

/-- The response value of a classifier result (R131). -/
def classField : ClassResult → Word48
  | .resolved c => flagged false c.toWord
  | .indeterminate => flagged true 0

/-! ### Comparator primitives -/

/-- The distance of a channel to the nearer extreme (R132). -/
def channelScore (v : Byte) : Nat := min (255 - v.toNat) v.toNat

/-- `score(p)` (R132). -/
def score (p : Color) : Nat := channelScore p.r + channelScore p.g + channelScore p.b

/-- `snap1(v)` (R134). -/
def snapChannel (v : Byte) : Byte := if v.toNat < Config.snapT then 0 else 255

/-- `snap(p)` (R134). -/
def snap (p : Color) : Color := ⟨snapChannel p.r, snapChannel p.g, snapChannel p.b⟩

/-- The classes of a channel under the dead-zone thresholds (R135). -/
inductive Level where
  | lo
  | hi
  | dead
  deriving DecidableEq, Repr

/-- `thr(S, n)`: the average `S/n` compared exactly; the endpoints are dead (R135). -/
def threshold (p : Params) (sum n : Nat) : Level :=
  if sum < p.tLo * n then .lo else if p.tHi * n < sum then .hi else .dead

/-- `lvl` (R136). -/
def levelByte : Level → Byte
  | .lo => 0
  | .hi => 255
  | .dead => 0

/-- The result of the three channel classes: one dead channel makes the whole result indeterminate (R136, R141). -/
def combineLevels (r g b : Level) : ClassResult :=
  if r = .dead ∨ g = .dead ∨ b = .dead then .indeterminate
  else .resolved ⟨levelByte r, levelByte g, levelByte b⟩

/-! ### Strategy 0: nearest corner -/

/-- The pixel kept when `ps` are scanned after `best`: a later one only with a strictly lower score (R137). -/
def keepBest (best : Color) (ps : List Color) : Color :=
  ps.foldl (fun best p => if score p < score best then p else best) best

/-- `classifyNC(i)` (R137). -/
def State.classifyNearest (s : State) (i : Nat) : ClassResult :=
  .resolved (snap (keepBest (s.pixel (s.origin i).1 (s.origin i).2)
    ((s.blockPixels i).map fun q => s.pixel q.1 q.2)))

/-! ### Strategy 1: thresholded neighbourhood average -/

/-- The representative pixel of block `i` (R139). -/
def State.centre (s : State) (i : Nat) : Nat × Nat :=
  ((s.origin i).1 + s.geomB.toNat / 2, (s.origin i).2 + s.geomB.toNat / 2)

/-- The coordinates `c - 1`, `c`, `c + 1` that lie in `0 .. bound - 1` (R140). -/
def nearCoordinates (c bound : Nat) : List Nat :=
  (List.range 3).filterMap fun e => if 1 ≤ c + e ∧ c + e - 1 < bound then some (c + e - 1) else none

/-- `nbhd(i)`, clipped at the image edges (R140). -/
def State.neighbourhood (s : State) (i : Nat) : List (Nat × Nat) :=
  (nearCoordinates (s.centre i).2 s.geomH.toNat).flatMap fun y =>
    (nearCoordinates (s.centre i).1 s.geomW.toNat).map fun x => (x, y)

/-- The sum of one channel over pixels (R141). -/
def channelSum (channel : Color → Byte) (ps : List Color) : Nat := (ps.map fun p => (channel p).toNat).sum

/-- `classifyTH(i)` (R141). -/
def State.classifyThreshold (s : State) (i : Nat) : ClassResult :=
  let ps := (s.neighbourhood i).map fun q => s.pixel q.1 q.2
  combineLevels (threshold s.cfg (channelSum Color.r ps) ps.length)
    (threshold s.cfg (channelSum Color.g ps) ps.length)
    (threshold s.cfg (channelSum Color.b ps) ps.length)

/-- `classify(i)`: the strategy that `CLS_CTRL` selects (R130, R144). -/
def State.classify (s : State) (i : Nat) : ClassResult :=
  match s.clsCtrl with
  | .nearestCorner => s.classifyNearest i
  | .thresholded => s.classifyThreshold i

/-! ### Operations -/

/-- `BCC.SCORE p` (R133). -/
def execBccScore (p : BitVec 24) (s : State) : Host.Outcome State Fault Refusal :=
  command s (.ok ⟨s, numField (score (colorOfWord p)), []⟩)

/-- `BCC.SNAP p` (R134). -/
def execBccSnap (p : BitVec 24) (s : State) : Host.Outcome State Fault Refusal :=
  command s (.ok ⟨s, field (snap (colorOfWord p)).toWord, []⟩)

/-- The classes of one pixel's channels, combined (R136). -/
def thresholdPixel (cfg : Params) (p : Color) : ClassResult :=
  combineLevels (threshold cfg p.r.toNat 1) (threshold cfg p.g.toNat 1) (threshold cfg p.b.toNat 1)

/-- `BCC.THRESH p` (R136). -/
def execBccThresh (p : BitVec 24) (s : State) : Host.Outcome State Fault Refusal :=
  command s (.ok ⟨s, classField (thresholdPixel s.cfg (colorOfWord p)), []⟩)

/-- `BCC.CLSNC i` (R138). -/
def execBccClsnc (i : BlockIndex) (s : State) : Host.Outcome State Fault Refusal :=
  command s (onBlock s 0x33 i (.ok ⟨s, classField (s.classifyNearest i.toNat), []⟩))

/-- `BCC.CLSTH i` (R142). -/
def execBccClsth (i : BlockIndex) (s : State) : Host.Outcome State Fault Refusal :=
  command s (onBlock s 0x34 i (.ok ⟨s, classField (s.classifyThreshold i.toNat), []⟩))

/-- `BCC.CLASSIFY i` (R144). -/
def execBccClassify (i : BlockIndex) (s : State) : Host.Outcome State Fault Refusal :=
  command s (onBlock s 0x35 i (.ok ⟨s, classField (s.classify i.toNat), []⟩))

end Sys2Proof.Machine
end

