-- ==== Sys2Proof/Machine/Packer.lean ====
section
/-!
DEFINITION. Unit SSP: digits to bytes to codewords (spec/44_digit_converter_and_packer.md R220 to R223).
-/

namespace Sys2Proof.Machine

/-- What a push reports: BYTE_DONE, CW_DONE and the byte (R221). -/
structure PushReport where
  byteDone : Bool
  cwDone : Bool
  byte : Byte
  deriving DecidableEq, Repr

/-- `SSP.START` on the registers (R220): `CWBUF` keeps its bytes. -/
def State.sspClear (s : State) : State := { s with dacc := 0, dcnt := 0, cwcnt := 0, cflag := false, cwidx := 0 }

/-- The digit that a push takes in: the placeholder when it is indeterminate (R221). -/
def pushedDigit (d : Digit) (indet : Bool) : Digit := if indet then Config.placeholder else d

/-- The 9-bit value of the accumulator with one more digit, `(zext_9(DACC) << 3) | d'` (R221). -/
def accumulate (dacc : BitVec 6) (d : Digit) : BitVec 9 := (dacc.setWidth 9 <<< 3) ||| d.setWidth 9

/-- The body of `SSP.PUSH d, indet` (R221). -/
def State.sspTake (s : State) (d : Digit) (indet : Bool) : State × PushReport :=
  let v := accumulate s.dacc (pushedDigit d indet)
  let cflag := s.cflag || indet
  if s.dcnt < 2 then
    ({ s with cflag := cflag, dacc := v.setWidth 6, dcnt := s.dcnt + 1 }, ⟨false, false, 0⟩)
  else
    ({ s with
        cflag := cflag
        cwbuf := s.cwbuf.set s.cwcnt.toNat (v.setWidth 8)
        cwcnt := s.cwcnt + 1
        dacc := 0
        dcnt := 0 },
     ⟨true, decide (s.cwcnt.toNat + 1 = s.cfg.N), v.setWidth 8⟩)

/-- The body of `SSP.CWPOP` (R223). -/
def State.sspPop (s : State) : State := { s with cwcnt := 0, cflag := false, cwidx := s.cwidx + 1 }

/-- `SSP.START` (R220). -/
def execSspStart (s : State) : Host.Outcome State Fault Refusal := command s (.ok ⟨s.sspClear, 0, []⟩)

/-- `SSP.PUSH d, indet` (R221). -/
def execSspPush (indet : BitVec 1) (d : BitVec 3) (s : State) : Host.Outcome State Fault Refusal :=
  command s
    (if s.cwcnt.toNat = s.cfg.N then raised .sequenceError 0x71
     else
       match s.sspTake d (decide (indet = 1)) with
       | (t, rep) => .ok ⟨t, pushField t.cflag rep.cwDone rep.byteDone rep.byte, []⟩)

/-- `SSP.CWRD j` (R222). -/
def execSspCwrd (j : Byte) (s : State) : Host.Outcome State Fault Refusal :=
  command s
    (if s.cwcnt.toNat ≤ j.toNat then raised .operandRange 0x72
     else .ok ⟨s, field (s.cwbuf.getD j.toNat 0), []⟩)

/-- `SSP.CWPOP` (R223). -/
def execSspCwpop (s : State) : Host.Outcome State Fault Refusal :=
  command s
    (if s.cwcnt.toNat ≠ s.cfg.N then raised .sequenceError 0x73
     else .ok ⟨s.sspPop, field (bit s.cflag), []⟩)

end Sys2Proof.Machine
end

