-- ==== Sys2Proof/Machine/Galois.lean ====
section
/-!
DEFINITION. GF(256) arithmetic (spec/43_reed_solomon.md R160 to R164). An element is a byte.
-/

namespace Sys2Proof.Machine

/-- Addition and subtraction (R161). -/
def gfAdd (a b : Byte) : Byte := a ^^^ b

/-- The product of two polynomials over GF(2), up to 15 bits (R162, first loop). -/
def gfProduct (a b : Byte) : BitVec 15 :=
  [0, 1, 2, 3, 4, 5, 6, 7].foldl
    (fun r i => if b.getLsbD i then r ^^^ (a.setWidth 15 <<< i) else r) 0

/-- Reduction modulo the field polynomial (R162, second loop). -/
def gfReduce (r : BitVec 15) : Byte :=
  ([14, 13, 12, 11, 10, 9, 8].foldl
    (fun r i => if r.getLsbD i then r ^^^ (Config.prim <<< (i - 8)) else r) r).setWidth 8

/-- Multiplication (R162). -/
def gfMul (a b : Byte) : Byte := gfReduce (gfProduct a b)

/-- Powers (R163). -/
def gfPow (a : Byte) : Nat → Byte
  | 0 => 1
  | n + 1 => gfMul (gfPow a n) a

/-- The square of an element. -/
def gfSquare (a : Byte) : Byte := gfMul a a

/-- The inverse of a non-zero element, which is its power 254 = 2 + 4 + 8 + 16 + 32 + 64 + 128 (R164). -/
def gfInv (a : Byte) : Byte :=
  let a2 := gfSquare a
  let a4 := gfSquare a2
  let a8 := gfSquare a4
  let a16 := gfSquare a8
  let a32 := gfSquare a16
  let a64 := gfSquare a32
  let a128 := gfSquare a64
  gfMul (gfMul (gfMul a2 a4) (gfMul a8 a16)) (gfMul (gfMul a32 a64) a128)

end Sys2Proof.Machine
end

