-- ==== Sys2Proof/Machine/Code.lean ====
section
/-!
DEFINITION. The Reed-Solomon code (spec/43_reed_solomon.md R165 to R169, R182, R183): generator polynomial, syndromes,
the parity shift register, Hamming distance and bounded-distance correction. A sequence of bytes is a list, index 0
first; a polynomial is the list of its coefficients, the highest degree first (R165).
-/

namespace Sys2Proof.Machine

/-! ### The code -/

/-- A polynomial times `(x + a)`. -/
def polyMulLinear (c : List Byte) (a : Byte) : List Byte :=
  List.zipWith gfAdd (c ++ [0]) (0 :: c.map (gfMul a))

/-- The code generator polynomial `g(x)` of degree `P`, its leading 1 first (R166). -/
def generator (P : Nat) : List Byte :=
  (List.range P).foldl (fun c j => polyMulLinear c (gfPow Config.alpha (Config.fcr + j))) [1]

/-- The value of a polynomial at a point. -/
def polyEval (c : List Byte) (x : Byte) : Byte := c.foldl (fun acc v => gfAdd (gfMul acc x) v) 0

/-- The syndrome `S_j(r) = r(ALPHA^(FCR+j))` (R167). -/
def syndrome (r : List Byte) (j : Nat) : Byte := polyEval r (gfPow Config.alpha (Config.fcr + j))

/-- All `P` syndromes (R167). -/
def syndromes (P : Nat) (r : List Byte) : List Byte := (List.range P).map (syndrome r)

/-- `r` is a codeword: all its syndromes are 0 (R167). -/
def isCodeword (P : Nat) (r : List Byte) : Bool := (syndromes P r).all (fun v => decide (v = 0))

/-- The locators `X_i = ALPHA^(n-1-i)` of the positions of an `n`-byte sequence, position 0 first (R165). -/
def locators : Nat → List Byte
  | 0 => []
  | n + 1 => gfPow Config.alpha n :: locators n

/-! ### Encoding -/

/-- One parity shift-register step (R169). `PAR[i]` gets `PAR[i+1] xor fb*g[P-1-i]`, the last one `fb*g[0]`. -/
def lfsrStep (P : Nat) (par : List Byte) (m : Byte) : List Byte :=
  let fb := gfAdd m (par.headD 0)
  List.zipWith (fun v g => gfAdd v (gfMul fb g)) (par.tail ++ [0]) (generator P).tail

/-! ### Decoding -/

/-- `dist(a, b)`: the positions where two sequences of one length differ (R182). -/
def hammingDist (a b : List Byte) : Nat := ((List.zip a b).filter (fun q => decide (q.1 ≠ q.2))).length

/-- The syndromes with the error at locator `x` taken out of them: `S'_j = S_(j+1) + x * S_j`. An error of value `y` at
`x` adds nothing to them, and one at another locator `z` counts with the value `y * (z + x)`. -/
def peel (x : Byte) : List Byte → List Byte
  | s0 :: s1 :: rest => gfAdd s1 (gfMul x s0) :: peel x (s1 :: rest)
  | _ => []

/-- The sum of a list of field elements. -/
def gfSum (l : List Byte) : Byte := l.foldr gfAdd 0

/-- The error values, one a position, of an error of weight at most `t` at the positions with locators `xs` that has
the syndromes `S`, if there is one. Each position in turn is tried first without an error, then with one. -/
def errorSearch : List Byte → Nat → List Byte → Option (List Byte)
  | [], _, S => if S.all (fun v => decide (v = 0)) then some [] else none
  | x :: xs, t, S =>
    match errorSearch xs t S with
    | some e => some (0 :: e)
    | none =>
      match t with
      | 0 => none
      | t' + 1 =>
        match errorSearch xs t' (peel x S) with
        | none => none
        | some e' =>
          let e := List.zipWith (fun z y => gfMul y (gfInv (gfAdd z x))) xs e'
          some (gfAdd (S.headD 0) (gfSum e) :: e)

/-- `rs_correct(r)`: the codeword within Hamming distance `T = floor(P/2)` of `r`, if one exists (R183). R183 fixes the
result and leaves the algorithm open; this one searches for the error of weight at most `T` that has the syndromes of
`r` (assumption log 7). -/
def rsCorrect (P : Nat) (r : List Byte) : Option (List Byte) :=
  match errorSearch (locators r.length) (P / 2) (syndromes P r) with
  | none => none
  | some e => some (List.zipWith gfAdd r e)

end Sys2Proof.Machine
end

