-- ==== Sys2Proof/Machine/ReedSolomon.lean ====
section
/-!
DEFINITION. Units RSE and RSD (spec/43_reed_solomon.md R170 to R172, R180 to R186).
-/

namespace Sys2Proof.Machine

/-! ### The encoder -/

/-- `RSE.START` on the registers: the shift register and the count become 0 (R170). -/
def State.rseClear (s : State) : State := { s with par := List.replicate s.cfg.P 0, rseCnt := 0 }

/-- The body of `RSE.BYTE`: one message byte into the shift register (R171). -/
def State.rseTake (s : State) (m : Byte) : State :=
  { s with par := lfsrStep s.cfg.P s.par m, rseCnt := s.rseCnt + 1 }

/-- `RSE.START` (R170). -/
def execRseStart (s : State) : Host.Outcome State Fault Refusal := command s (.ok ⟨s.rseClear, 0, []⟩)

/-- `RSE.BYTE m` (R171). -/
def execRseByte (m : Byte) (s : State) : Host.Outcome State Fault Refusal :=
  command s
    (if s.rseCnt.toNat = s.cfg.K then raised .sequenceError 0x41
     else .ok ⟨s.rseTake m, field m, []⟩)

/-- `RSE.PAR j` (R172). -/
def execRsePar (j : Byte) (s : State) : Host.Outcome State Fault Refusal :=
  command s
    (if s.rseCnt.toNat ≠ s.cfg.K then raised .sequenceError 0x42
     else if s.cfg.P ≤ j.toNat then raised .operandRange 0x42
     else .ok ⟨s, field (s.par.getD j.toNat 0), []⟩)

/-! ### The decoder -/

/-- The body of `RSD.DECODE f`: the corrected state and the number of symbols corrected (R184). With `f = 0` the parity
is not looked at (R187); the fault carries the index of the codeword in the session. -/
def State.rsdCorrect (s : State) (f : Bool) : Except Stop (State × Nat) :=
  if f then
    match rsCorrect s.cfg.P s.rsdBuf with
    | some c => .ok ({ s with rsdBuf := c, rsdOk := true }, hammingDist s.rsdBuf c)
    | none => raised .uncorrectableCodeword s.cwidx
  else .ok ({ s with rsdOk := true }, 0)

/-- `RSD.START` (R180): the buffer keeps its bytes. -/
def execRsdStart (s : State) : Host.Outcome State Fault Refusal :=
  command s (.ok ⟨{ s with rsdCnt := 0, rsdOk := false }, 0, []⟩)

/-- `RSD.BYTE b` (R181). -/
def execRsdByte (b : Byte) (s : State) : Host.Outcome State Fault Refusal :=
  command s
    (if s.rsdCnt.toNat = s.cfg.N then raised .sequenceError 0x51
     else .ok ⟨{ s with rsdBuf := s.rsdBuf.set s.rsdCnt.toNat b, rsdCnt := s.rsdCnt + 1, rsdOk := false }, 0, []⟩)

/-- `RSD.DECODE f` (R184). -/
def execRsdDecode (f : BitVec 1) (s : State) : Host.Outcome State Fault Refusal :=
  command s
    (if s.rsdCnt.toNat ≠ s.cfg.N then raised .sequenceError 0x52
     else
       match s.rsdCorrect (decide (f = 1)) with
       | .ok (t, n) => .ok ⟨t, numField n, []⟩
       | .error e => .error e)

/-- `RSD.READ j` (R185). -/
def execRsdRead (j : Byte) (s : State) : Host.Outcome State Fault Refusal :=
  command s
    (if s.rsdOk = false then raised .sequenceError 0x53
     else if s.cfg.N ≤ j.toNat then raised .operandRange 0x53
     else .ok ⟨s, field (s.rsdBuf.getD j.toNat 0), []⟩)

/-- `RSD.SYND j` (R186). -/
def execRsdSynd (j : Byte) (s : State) : Host.Outcome State Fault Refusal :=
  command s
    (if s.rsdCnt.toNat ≠ s.cfg.N then raised .sequenceError 0x54
     else if s.cfg.P ≤ j.toNat then raised .operandRange 0x54
     else .ok ⟨s, field (syndrome s.rsdBuf j.toNat), []⟩)

end Sys2Proof.Machine
end

