-- ==== Sys2Proof/Machine/DecodePath.lean ====
section
/-!
DEFINITION. The decode datapath (spec/45_datapath.md R248 to R252).
-/

namespace Sys2Proof.Machine

/-- The state after `DEC.START` (R249). -/
def State.decodeStart (s : State) : State :=
  { s.sspClear with rsdCnt := 0, rsdOk := false, outCnt := 0, cur := 0, frameValid := false }

/-- `DEC.START` (R249): the length contract is mandatory. -/
def execDecStart (s : State) : Host.Outcome State Fault Refusal :=
  command s
    (if s.cnt = 0 then raised .configError 0xA0
     else if s.lenSet = false then raised .sequenceError 0xA0
     else .ok ⟨s.decodeStart, 0, []⟩)

/-- `DEC.FRAME` (R250). -/
def execDecFrame (s : State) : Host.Outcome State Fault Refusal :=
  command s
    (if s.cnt = 0 then raised .configError 0xA1
     else if s.frameValid then raised .sequenceError 0xA1
     else .ok ⟨{ s with frameValid := true }, 0, []⟩)

/-- The digit and the `indet` bit of a classifier result (R251). A resolved colour is a corner colour (R106, R145), so
the fault is never raised; were it not one, R104 names the fault (assumption log 11). -/
def digitOfResult : ClassResult → Except Stop (Digit × Bool)
  | .indeterminate => .ok (0, true)
  | .resolved c =>
    match digitOf c with
    | some d => .ok (d, false)
    | none => raised .unknownColor (field c.toWord)

/-- The payload bytes of the decoded codeword that the target length still admits (R251): byte `j` of the first `K` is
output while `OUT_CNT < TGT_LEN`. -/
def State.payloadOut (s : State) : List Byte :=
  (s.rsdBuf.take s.cfg.K).take (s.tgtLen.toNat - s.outCnt.toNat)

/-- A completed codeword through the Reed-Solomon decoder to the output (R251, R189). -/
def State.decodeCodeword (s : State) : Except Stop (State × List Byte) :=
  match ({ s with rsdBuf := s.cwbuf, rsdCnt := BitVec.ofNat 8 s.cfg.N, rsdOk := false } : State).rsdCorrect s.cflag with
  | .error e => .error e
  | .ok (t, _) =>
    .ok ({ t.sspPop with outCnt := t.outCnt + BitVec.ofNat 48 t.payloadOut.length }, t.payloadOut)

/-- The packer and, when the push completed a codeword, the decoder (R251). -/
def State.takeSymbol (s : State) (d : Digit) (indet : Bool) : Except Stop (State × List Byte) :=
  match s.sspTake d indet with
  | (t, rep) => if rep.cwDone then t.decodeCodeword else .ok (t, [])

/-- The cursor after a block is consumed; the frame is used up after the last one (R251). -/
def State.consumeBlock (s : State) : State :=
  { s.advance with frameValid := if s.lastBlock then false else s.frameValid }

/-- `DEC.BLOCK` on a loaded frame (R251): classify, pack, decode, output, advance. -/
def State.decodeBlock (s : State) : Except Stop Done :=
  match digitOfResult (s.classify s.cur.toNat) with
  | .error e => .error e
  | .ok (d, indet) =>
    match s.takeSymbol d indet with
    | .error e => .error e
    | .ok (t, out) =>
      .ok ⟨t.consumeBlock, blockField out.length indet t.done t.lastBlock, out.map Event.outByte⟩

/-- `DEC.BLOCK` (R251), its checks in the order of R294; once DONE it does nothing. With `CUR` outside the grid the
block to classify has no origin (assumption log 8). -/
def execDecBlock (s : State) : Host.Outcome State Fault Refusal :=
  command s
    (if s.cnt = 0 then raised .configError 0xA2
     else if s.done then .ok ⟨s, blockField 0 false true false, []⟩
     else if s.frameValid = false ∨ s.cwcnt.toNat = s.cfg.N then raised .sequenceError 0xA2
     else if s.cnt ≤ s.cur.toNat then .error (.model .cursorOutsideGrid)
     else s.decodeBlock)

/-- `DEC.EOS` (R252). -/
def execDecEos (s : State) : Host.Outcome State Fault Refusal :=
  command s
    (if s.outCnt.toNat < s.tgtLen.toNat then raised .sourceExhaustedEarly s.outCnt
     else .ok ⟨s, 0, []⟩)

end Sys2Proof.Machine
end

