-- ==== Sys2Proof/Machine/Digits.lean ====
section
/-!
DEFINITION. Unit DSC: bytes to digits (spec/44_digit_converter_and_packer.md R210 to R214).
-/

namespace Sys2Proof.Machine

/-- The digit that `DSC.NEXT` delivers when `ph` digits of a byte are pending:
`(zext_9(DSC_BYTE) >> 3*(PH-1))[2:0]` (R213). -/
def pendingDigit (byte : Byte) (ph : BitVec 2) : Digit :=
  (((byte.setWidth 9) >>> (3 * (ph.toNat - 1)) : BitVec 9)).extractLsb' 0 3

/-- `DSC.LOAD b` (R212). -/
def execDscLoad (b : Byte) (s : State) : Host.Outcome State Fault Refusal :=
  command s
    (if s.dscPh ≠ 0 then raised .sequenceError 0x80
     else .ok ⟨{ s with dscByte := b, dscPh := 3 }, 0, []⟩)

/-- `DSC.NEXT` (R213). -/
def execDscNext (s : State) : Host.Outcome State Fault Refusal :=
  command s
    (if s.dscPh = 0 then raised .sequenceError 0x81
     else .ok ⟨{ s with dscPh := s.dscPh - 1 }, nextField (s.dscPh - 1) (pendingDigit s.dscByte s.dscPh), []⟩)

/-- `DSC.EXPAND b` (R214). -/
def execDscExpand (b : Byte) (s : State) : Host.Outcome State Fault Refusal :=
  command s (.ok ⟨s, digitsField (digitsOf b).1 (digitsOf b).2.1 (digitsOf b).2.2, []⟩)

end Sys2Proof.Machine
end

