-- ==== Sys2Proof/Machine/EncodePath.lean ====
section
/-!
DEFINITION. The encode datapath (spec/45_datapath.md R240 to R245).
-/

namespace Sys2Proof.Machine

/-- An encode command in progress: the registers and memory so far, and the frames emitted, in order. -/
structure EncodeRun where
  state : State
  events : List Event
  deriving DecidableEq, Repr

/-- The pixels of the block at `CUR` painted with a colour (R243). -/
def State.paintBlock (s : State) (c : Color) : State :=
  { s with
    frame := (s.blockPixels s.cur.toNat).foldl (fun m q => Memory.setPixel m (s.pixelAddress q.1 q.2) c) s.frame }

/-- The frame emitted, a fresh blank frame begun at block 0 (R243, R245). -/
def EncodeRun.emit (e : EncodeRun) : EncodeRun :=
  ⟨{ e.state.blankFrame with cur := 0 }, e.events ++ [.emitFrame e.state.frameImage]⟩

/-- `paint_digit(d)` (R243). -/
def EncodeRun.paintDigit (e : EncodeRun) (d : Digit) : EncodeRun :=
  let e' : EncodeRun := ⟨e.state.paintBlock (colorRom d), e.events⟩
  if e'.state.lastBlock then e'.emit else ⟨{ e'.state with cur := e'.state.cur + 1 }, e'.events⟩

/-- `emit_byte(x)` (R243): its three digits, most significant first; `DSC_BYTE` is left at the byte, `DSC_PH` at 0. -/
def EncodeRun.emitByte (e : EncodeRun) (x : Byte) : EncodeRun :=
  let e' := ((e.paintDigit (digitsOf x).1).paintDigit (digitsOf x).2.1).paintDigit (digitsOf x).2.2
  ⟨{ e'.state with dscByte := x, dscPh := 0 }, e'.events⟩

/-- The body of `ENC.BYTE b` from its third line (R244): the byte, and after the K-th of a chunk the parity. -/
def EncodeRun.takeByte (e : EncodeRun) (b : Byte) : EncodeRun :=
  let e' := (EncodeRun.mk (e.state.rseTake b) e.events).emitByte b
  if e'.state.rseCnt.toNat = e'.state.cfg.K then
    let e'' := e'.state.par.foldl EncodeRun.emitByte e'
    ⟨e''.state.rseClear, e''.events⟩
  else e'

/-- The response of an encode command: the frames emitted (R85, R244, R245). -/
def EncodeRun.result (e : EncodeRun) : Done := ⟨e.state, numField e.events.length, e.events⟩

/-- The checks of `ENC.BYTE` and `ENC.END`, in the order of R294. -/
def encodeReady (s : State) (op : Word48) (body : Except Stop Done) : Except Stop Done :=
  if s.cnt = 0 then raised .configError op
  else if s.dscPh ≠ 0 ∨ s.rseCnt.toNat = s.cfg.K then raised .sequenceError op
  else body

/-- The state after `ENC.START` (R241). -/
def State.encodeStart (s : State) : State := { s.rseClear.blankFrame with dscPh := 0, dscByte := 0, cur := 0 }

/-- `ENC.START` (R241). -/
def execEncStart (s : State) : Host.Outcome State Fault Refusal :=
  command s
    (if s.cnt = 0 then raised .configError 0x90
     else .ok ⟨s.encodeStart, 0, []⟩)

/-- `ENC.BYTE b` (R244). With `CUR` outside the grid the block to paint has no origin (assumption log 8). -/
def execEncByte (b : Byte) (s : State) : Host.Outcome State Fault Refusal :=
  command s
    (encodeReady s 0x91
      (if s.cnt ≤ s.cur.toNat then .error (.model .cursorOutsideGrid)
       else .ok ((EncodeRun.mk s []).takeByte b).result))

/-- The padding of a short last chunk (R245): the loop runs `K - RSE_CNT` times when a chunk is open. -/
def EncodeRun.padChunk : Nat → EncodeRun → EncodeRun
  | 0, e => e
  | n + 1, e => if e.state.rseCnt = 0 then e else EncodeRun.padChunk n (e.takeByte Config.pad)

/-- The last frame, which may be partly filled; none when no block of it is painted (R245). -/
def EncodeRun.flush (e : EncodeRun) : EncodeRun := if e.state.cur = 0 then e else e.emit

/-- The registers closed at the end of a session: `DSC_BYTE` is 0 again, because the registers after `ENC.END` are as
after `ENC.START` (R245, R314; assumption log 6). -/
def State.encodeEnd (s : State) : State := { s with dscByte := 0 }

/-- A finished session (R245). -/
def EncodeRun.close (e : EncodeRun) : EncodeRun := ⟨e.state.encodeEnd, e.events⟩

/-- `ENC.END` (R245): an open chunk padded, the last frame flushed, the session closed. Only an open chunk paints, so
only then must `CUR` be inside the grid (assumption log 8). -/
def execEncEnd (s : State) : Host.Outcome State Fault Refusal :=
  command s
    (encodeReady s 0x92
      (if s.rseCnt ≠ 0 ∧ s.cnt ≤ s.cur.toNat then .error (.model .cursorOutsideGrid)
       else .ok (EncodeRun.padChunk (s.cfg.K - s.rseCnt.toNat) (EncodeRun.mk s [])).flush.close.result))

end Sys2Proof.Machine
end

