-- ==== Sys2Proof/Machine/Dispatch.lean ====
section
/-!
DEFINITION. The dispatch: one arm per operation of spec/opcode_table.json, each one call of its meaning.
-/

namespace Sys2Proof.Machine

/-- The effect of an operation on a state (R16). -/
def exec (i : Instr) (s : State) : Host.Outcome State Fault Refusal :=
  match i with
  | .sysReset => Sys2Proof.Machine.execSysReset s
  | .sysAbortSink => Sys2Proof.Machine.execSysAbortSink s
  | .sysAbortSource => Sys2Proof.Machine.execSysAbortSource s
  | .aceColorof digit => Sys2Proof.Machine.execAceColorof digit s
  | .acdDigitof color => Sys2Proof.Machine.execAcdDigitof color s
  | .bccScore pixel => Sys2Proof.Machine.execBccScore pixel s
  | .bccSnap pixel => Sys2Proof.Machine.execBccSnap pixel s
  | .bccThresh pixel => Sys2Proof.Machine.execBccThresh pixel s
  | .bccClsnc index => Sys2Proof.Machine.execBccClsnc index s
  | .bccClsth index => Sys2Proof.Machine.execBccClsth index s
  | .bccClassify index => Sys2Proof.Machine.execBccClassify index s
  | .rseStart => Sys2Proof.Machine.execRseStart s
  | .rseByte byte => Sys2Proof.Machine.execRseByte byte s
  | .rsePar j => Sys2Proof.Machine.execRsePar j s
  | .rsdStart => Sys2Proof.Machine.execRsdStart s
  | .rsdByte byte => Sys2Proof.Machine.execRsdByte byte s
  | .rsdDecode flag => Sys2Proof.Machine.execRsdDecode flag s
  | .rsdRead j => Sys2Proof.Machine.execRsdRead j s
  | .rsdSynd j => Sys2Proof.Machine.execRsdSynd j s
  | .flgBlkcnt => Sys2Proof.Machine.execFlgBlkcnt s
  | .flgBlkorg index => Sys2Proof.Machine.execFlgBlkorg index s
  | .flgCurrst => Sys2Proof.Machine.execFlgCurrst s
  | .flgCurnext => Sys2Proof.Machine.execFlgCurnext s
  | .flgRescale => Sys2Proof.Machine.execFlgRescale s
  | .sspStart => Sys2Proof.Machine.execSspStart s
  | .sspPush indet digit => Sys2Proof.Machine.execSspPush indet digit s
  | .sspCwrd j => Sys2Proof.Machine.execSspCwrd j s
  | .sspCwpop => Sys2Proof.Machine.execSspCwpop s
  | .dscLoad byte => Sys2Proof.Machine.execDscLoad byte s
  | .dscNext => Sys2Proof.Machine.execDscNext s
  | .dscExpand byte => Sys2Proof.Machine.execDscExpand byte s
  | .encStart => Sys2Proof.Machine.execEncStart s
  | .encByte byte => Sys2Proof.Machine.execEncByte byte s
  | .encEnd => Sys2Proof.Machine.execEncEnd s
  | .decStart => Sys2Proof.Machine.execDecStart s
  | .decFrame => Sys2Proof.Machine.execDecFrame s
  | .decBlock => Sys2Proof.Machine.execDecBlock s
  | .decEos => Sys2Proof.Machine.execDecEos s
  | .csrr csr => Sys2Proof.Machine.execCsrr csr s
  | .csrwGeomW value => Sys2Proof.Machine.execCsrwGeomW value s
  | .csrwGeomH value => Sys2Proof.Machine.execCsrwGeomH value s
  | .csrwGeomB value => Sys2Proof.Machine.execCsrwGeomB value s
  | .csrwClsCtrl value => Sys2Proof.Machine.execCsrwClsCtrl value s
  | .csrwTgtLen value => Sys2Proof.Machine.execCsrwTgtLen value s

end Sys2Proof.Machine
end

