-- ==== Sys2Proof/Machine/Step.lean ====
section
/-!
DEFINITION. One step: the next thing the host does (spec/30_encoding.md R80, spec/60_exceptions.md R312).
-/

namespace Sys2Proof.Machine

/-- A command word presented to the block: decoded and executed, or illegal (R88, R86). -/
def present (w : Word) (s : State) : Host.Outcome State Fault Refusal :=
  match decode w with
  | .ok i => exec i s
  | .error _ => illegalCommand w s

/-- One step. The next host action is taken from `inbox`; with nothing there the block waits (assumption log 3). -/
def step (s : State) : Host.Outcome State Fault Refusal :=
  match s.inbox with
  | [] => .next s
  | .command w :: rest => present w { s with inbox := rest }
  | .loadFrame raster :: rest => hostLoad raster { s with inbox := rest }
  | .hardwareReset :: rest => .next ({ s with inbox := rest } : State).hardwareReset

/-- The state with one command word presented next: where `step` takes its next instruction from. -/
def State.withFetchWord (s : State) (nbits w : Nat) : State :=
  { s with inbox := .command (BitVec.ofNat 64 (w % 2 ^ nbits)) :: s.inbox }

end Sys2Proof.Machine
end

