-- ==== Sys2Proof/Machine/Reference.lean ====
section
/-!
DEFINITION. Functions the spec defines beside the operations and by which it says what sequences of commands compute:
systematic encoding by remainder (spec/43_reed_solomon.md R168), framing (R174), the informative correction algorithm
(R190), the digit stream (spec/44_digit_converter_and_packer.md R210) and the frames of an encode session
(spec/45_datapath.md R246). No operation uses them.
-/

namespace Sys2Proof.Machine

/-! ### Systematic encoding (R168, R174) -/

/-- A list added onto the front of another, position by position. -/
def addFront : List Byte → List Byte → List Byte
  | x :: xs, y :: ys => gfAdd x y :: addFront xs ys
  | xs, [] => xs
  | [], _ :: _ => []

/-- `n` steps of long division of a polynomial by a monic one: each takes away the multiple of the divisor that
cancels the highest coefficient. -/
def polyRem : Nat → List Byte → List Byte → List Byte
  | n + 1, c :: cs, g => polyRem n (addFront cs (g.tail.map (gfMul c))) g
  | _, cs, _ => cs

/-- `rs_encode(m)`: the message and then the remainder of `m(x) * x^P` divided by `g(x)` (R168). -/
def rsEncode (P : Nat) (m : List Byte) : List Byte :=
  m ++ polyRem m.length (m ++ List.replicate P 0) (generator P)

/-- The K-byte chunks of a payload, the last one padded, for a payload of at most `n` chunks (R174). -/
def chunks : Nat → Nat → List Byte → List (List Byte)
  | 0, _, _ => []
  | n + 1, K, bytes =>
    if bytes = [] then []
    else (bytes.take K ++ List.replicate (K - bytes.length) Config.pad) :: chunks n K (bytes.drop K)

/-- `ecc_encode(bytes)` (R174). -/
def eccEncode (p : Params) (bytes : List Byte) : List Byte :=
  (chunks bytes.length p.K bytes).flatMap (rsEncode p.P)

/-- The digit stream of a byte sequence (R210). -/
def digitStream (bytes : List Byte) : List Digit :=
  bytes.flatMap fun b => [(digitsOf b).1, (digitsOf b).2.1, (digitsOf b).2.2]

/-! ### The frames of an encode session (R246) -/

/-- One channel of a colour in the order of the bytes of a pixel (R61). -/
def Color.channel (c : Color) (k : Nat) : Byte := if k = 0 then c.r else if k = 1 then c.g else c.b

/-- The byte at address `a` of frame `f` of the session that carries the digits `ds`: the colour of digit `f*CNT + j`
in block `j`, 0x00 in blocks beyond the stream and in the margin (R246). -/
def State.sessionByte (s : State) (ds : List Digit) (f a : Nat) : Byte :=
  let x := a / 3 % s.geomW.toNat
  let y := a / 3 / s.geomW.toNat
  let col := x / s.geomB.toNat
  let row := y / s.geomB.toNat
  if col < s.cols ∧ row < s.rows then
    match ds[f * s.cnt + (row * s.cols + col)]? with
    | some d => (colorRom d).channel (a % 3)
    | none => 0
  else 0

/-- The frames of that session, `ceil(|ds| / CNT)` of them (R246, R247). -/
def State.sessionFrames (s : State) (ds : List Digit) : List Event :=
  (List.range ((ds.length + (s.cnt - 1)) / s.cnt)).map fun f =>
    .emitFrame ((List.range s.frameBytes).map (s.sessionByte ds f))

/-! ### The reference correction algorithm (R190, informative)

Here a polynomial is the list of its coefficients with the lowest degree first. -/

/-- The value of a polynomial, lowest degree first, at a point. -/
def evalLow (c : List Byte) (x : Byte) : Byte := c.foldr (fun v acc => gfAdd v (gfMul acc x)) 0

/-- The sum of two polynomials, lowest degree first. -/
def addLow : List Byte → List Byte → List Byte
  | x :: xs, y :: ys => gfAdd x y :: addLow xs ys
  | xs, [] => xs
  | [], ys => ys

/-- The product of two polynomials, lowest degree first. -/
def mulLow : List Byte → List Byte → List Byte
  | [], _ => []
  | x :: xs, ys => addLow (ys.map (gfMul x)) (0 :: mulLow xs ys)

/-- The state of the Berlekamp-Massey recurrence search: the recurrence, the one before the last length change, the
length, the steps since then and the discrepancy then. -/
structure MasseyRun where
  lambda : List Byte
  previous : List Byte
  len : Nat
  gap : Nat
  discrepancy : Byte
  deriving DecidableEq, Repr

/-- The discrepancy of a recurrence at syndrome `n` (R190 step 2). -/
def masseyDiscrepancy (S : List Byte) (n : Nat) (c : MasseyRun) : Byte :=
  gfSum ((List.range (c.len + 1)).map fun i => gfMul (c.lambda.getD i 0) (S.getD (n - i) 0))

/-- One step of the search (R190 step 2). -/
def masseyStep (S : List Byte) (c : MasseyRun) (n : Nat) : MasseyRun :=
  let d := masseyDiscrepancy S n c
  if d = 0 then { c with gap := c.gap + 1 }
  else
    let coef := gfMul d (gfInv c.discrepancy)
    let next := addLow c.lambda (List.replicate c.gap 0 ++ c.previous.map (gfMul coef))
    if 2 * c.len ≤ n then ⟨next, c.lambda, n + 1 - c.len, 1, d⟩
    else { c with lambda := next, gap := c.gap + 1 }

/-- `Lambda(x)`, the shortest linear recurrence that generates the syndromes, with its length (R190 step 2). -/
def masseyLocator (S : List Byte) : MasseyRun :=
  (List.range S.length).foldl (masseyStep S) ⟨[1], [1], 0, 1, 1⟩

/-- The formal derivative: the odd-degree coefficients, shifted down one degree (R190 step 4). -/
def derivative : List Byte → List Byte
  | [] => []
  | [_] => []
  | _ :: b :: rest => b :: (match rest with
    | [] => []
    | c :: cs => 0 :: derivative (c :: cs))

/-- The error value at an error position with locator `x` (R190 step 4 with `FCR = 0`); `none` when `d = 0`. -/
def forneyValue (lambda omega : List Byte) (x : Byte) : Option Byte :=
  let d := evalLow (derivative lambda) (gfInv x)
  if d = 0 then none else some (gfMul (gfMul x (evalLow omega (gfInv x))) (gfInv d))

/-- The corrected bytes: an error value added at every root of `Lambda` (R190 steps 3 and 4). -/
def forneyCorrect (lambda omega : List Byte) : List Byte → List Byte → Option (List Byte)
  | x :: xs, r :: rs =>
    match forneyCorrect lambda omega xs rs with
    | none => none
    | some c =>
      if evalLow lambda (gfInv x) = 0 then
        match forneyValue lambda omega x with
        | none => none
        | some e => some (gfAdd r e :: c)
      else some (r :: c)
  | _, _ => some []

/-- The reference algorithm for `rs_correct` (R190): syndromes, Berlekamp-Massey, root search, Forney, re-check. -/
def rsReference (P : Nat) (r : List Byte) : Option (List Byte) :=
  let S := syndromes P r
  let m := masseyLocator S
  let xs := locators r.length
  if S.all (fun v => decide (v = 0)) then some r
  else if m.len = 0 ∨ P / 2 < m.len ∨ m.lambda.getD m.len 0 = 0 then none
  else if (xs.filter fun x => decide (evalLow m.lambda (gfInv x) = 0)).length ≠ m.len then none
  else
    match forneyCorrect m.lambda ((mulLow S m.lambda).take P) xs r with
    | none => none
    | some c => if isCodeword P c then some c else none

end Sys2Proof.Machine
end

