-- ==== Sys2Proof/WellFormed.lean ====
section
/-!
DEFINITION. What must hold of the terms of the model's syntax: the constraints of spec/00_scope.md rule R9 on the
build parameters, and of a command, whose operand types already have the widths of R83 and R85.
-/

namespace Sys2Proof

/-- The constraints of R9 on the OPEN parameters, one conjunct a row of its table. -/
abbrev Params.WellFormed (p : Params) : Prop :=
  1 ≤ p.K ∧ p.P % 2 = 0 ∧ p.K + p.P ≤ 255 ∧
  p.tLo ≤ p.tHi ∧ p.tHi ≤ 255 ∧
  1 ≤ p.wRef ∧ p.wRef ≤ 4095 ∧ 1 ≤ p.bRef ∧ p.bRef ≤ p.wRef

/-- Every term of `Instr` is a legal command: its operands have the exact widths of R85 and no operand value is
refused by the decoder (R88: an operand that is out of range for the current state is no decode error). -/
abbrev Instr.WellFormed (_i : Instr) : Prop := True

end Sys2Proof
end

