-- ==== Sys2Proof/Safety.lean ====
section
/-!
DEFINITION. The terms in which statements speak: the invariant of the machine, which commands may write a register,
and runs of commands.
-/

namespace Sys2Proof.Machine

/-- The invariant of the machine between steps, each field from the rule it names. -/
structure Inv (s : State) : Prop where
  /-- the build parameters meet R9 -/
  params : s.cfg.WellFormed
  /-- the memory has its canonical form inside the physical array (R50) -/
  memory : Memory.wf s.frame = true
  /-- the array registers have their lengths (R23) -/
  par_length : s.par.length = s.cfg.P
  cwbuf_length : s.cwbuf.length = s.cfg.N
  rsdBuf_length : s.rsdBuf.length = s.cfg.N
  /-- the ranges of R23 -/
  rseCnt_le : s.rseCnt.toNat ≤ s.cfg.K
  /-- the parity register is clear between codewords (R170, R244) -/
  par_clear : s.rseCnt = 0 → s.par = List.replicate s.cfg.P 0
  cwcnt_le : s.cwcnt.toNat ≤ s.cfg.N
  rsdCnt_le : s.rsdCnt.toNat ≤ s.cfg.N
  dcnt_le : s.dcnt.toNat ≤ 2
  /-- `DACC` holds `DCNT` digits (R23) -/
  dacc_lt : s.dacc.toNat < 8 ^ s.dcnt.toNat
  /-- a codeword completes on a byte boundary (R223) -/
  full_on_boundary : s.cwcnt.toNat = s.cfg.N → s.dcnt = 0
  /-- the cursor is inside the grid (R24) -/
  cur_lt : 0 < s.cnt → s.cur.toNat < s.cnt
  cur_zero : s.cnt = 0 → s.cur = 0
  /-- a frame is loaded only in a legal geometry (R40, R250) -/
  frame_grid : s.frameValid = true → 0 < s.cnt
  /-- `RSD_BUF` may be read only when it is full (R184) -/
  ok_full : s.rsdOk = true → s.rsdCnt.toNat = s.cfg.N
  /-- `FINFO` is written only together with `FAULT` (R32) -/
  finfo_zero : s.fault = none → s.finfo = 0
  /-- a response that is not `ok` has no value and no events (R84) -/
  response_shape : ∀ r, s.response = some r → r.status ≠ 0 → r.rsp = 0 ∧ r.events = []

/-! ### Runs of commands -/

/-- The commands of a session one after the other, every one completing with status 0: the last state and the events
of all the responses, in order (R70, R242, R253). -/
def session : List Instr → State → Option (State × List Event)
  | [], s => some (s, [])
  | i :: is, s =>
    match exec i s with
    | .next t =>
      match t.response with
      | some r =>
        if r.status = 0 then
          match session is t with
          | some (u, events) => some (u, r.events ++ events)
          | none => none
        else none
      | none => none
    | _ => none

/-- `DEC.BLOCK` until a response has WRAP or DONE, at most `n` times (R254), every block resolved: the last state and
the events, `none` when a command does not complete with status 0 or reports INDET. -/
def decodeBlocks : Nat → State → Option (State × List Event)
  | 0, s => some (s, [])
  | n + 1, s =>
    match session [.decBlock] s with
    | none => none
    | some (t, out) =>
      match t.response with
      | none => none
      | some r =>
        if r.rsp.getLsbD 2 then none
        else if r.rsp.getLsbD 0 || r.rsp.getLsbD 1 then some (t, out)
        else
          match decodeBlocks n t with
          | some (u, more) => some (u, out ++ more)
          | none => none

/-- The canonical decode of a sequence of frames after `DEC.START` (R254): each is loaded by the host, announced by
`DEC.FRAME` and its blocks are consumed; it stops when the target length is reached. -/
def decodeFrames : List (List Byte) → State → Option (State × List Event)
  | [], s => some (s, [])
  | image :: rest, s =>
    match hostLoad image s with
    | .next t =>
      match session [.decFrame] t with
      | none => none
      | some (u, _) =>
        match decodeBlocks u.cnt u with
        | none => none
        | some (v, out) =>
          if v.done then some (v, out)
          else
            match decodeFrames rest v with
            | some (w, more) => some (w, out ++ more)
            | none => none
    | _ => none

/-- The byte of an `OutByte` event (R253). -/
def Event.payload : Event → Option Byte
  | .outByte b => some b
  | .emitFrame _ => none

/-! ### Colours and blocks -/

/-- A corner colour: each channel 0 or 255 (R101). -/
def Color.IsCorner (c : Color) : Prop := (c.r = 0 ∨ c.r = 255) ∧ (c.g = 0 ∨ c.g = 255) ∧ (c.b = 0 ∨ c.b = 255)

/-- What `DEC.BLOCK` hands to the packer from the block at `CUR`: the digit of a resolved colour, or the
indeterminate marker (R251). -/
def BlockReads (s : State) (d : Digit) (indet : Bool) : Prop :=
  (s.classify s.cur.toNat = .indeterminate ∧ d = 0 ∧ indet = true) ∨
  (∃ c, s.classify s.cur.toNat = .resolved c ∧ digitOf c = some d ∧ indet = false)

/-- A byte address of the pixels of block `i` with the colour channel it holds (R63, R112). -/
def InBlock (s : State) (i a channel : Nat) : Prop :=
  channel < 3 ∧ ∃ q ∈ s.blockPixels i, a = s.pixelAddress q.1 q.2 + channel

/-! ### Which commands may write a register: the column "written by" of R23

`SYS.RESET` writes every register and stands in no list (R271). -/

/-- Commands that write `CUR`. -/
def writesCur : Instr → Bool
  | .flgCurrst | .flgCurnext | .flgRescale | .csrwGeomW _ | .csrwGeomH _ | .csrwGeomB _ => true
  | .encStart | .encByte _ | .encEnd | .decStart | .decBlock => true
  | _ => false

/-- Commands that write `DSC_BYTE`; `ENC.START` by its own rule R241 (assumption log 6). -/
def writesDscByte : Instr → Bool
  | .dscLoad _ | .encByte _ | .encEnd | .encStart => true
  | _ => false

/-- Commands that write `DSC_PH`. -/
def writesDscPh : Instr → Bool
  | .dscLoad _ | .dscNext | .encStart | .encByte _ | .encEnd => true
  | _ => false

/-- Commands that write `DACC` and `DCNT`. -/
def writesDigits : Instr → Bool
  | .sspStart | .sspPush _ _ | .decStart | .decBlock => true
  | _ => false

/-- Commands that write `CWBUF`. -/
def writesCwbuf : Instr → Bool
  | .sspPush _ _ | .decBlock => true
  | _ => false

/-- Commands that write `CWCNT` and `CFLAG`. -/
def writesCwcnt : Instr → Bool
  | .sspStart | .sspPush _ _ | .sspCwpop | .decStart | .decBlock => true
  | _ => false

/-- Commands that write `CWIDX`. -/
def writesCwidx : Instr → Bool
  | .sspStart | .sspCwpop | .decStart | .decBlock => true
  | _ => false

/-- Commands that write `PAR` and `RSE_CNT`. -/
def writesPar : Instr → Bool
  | .rseStart | .rseByte _ | .encStart | .encByte _ | .encEnd => true
  | _ => false

/-- Commands that write `RSD_BUF`. -/
def writesRsdBuf : Instr → Bool
  | .rsdByte _ | .rsdDecode _ | .decBlock => true
  | _ => false

/-- Commands that write `RSD_CNT`. -/
def writesRsdCnt : Instr → Bool
  | .rsdStart | .rsdByte _ | .decStart | .decBlock => true
  | _ => false

/-- Commands that write `RSD_OK`. -/
def writesRsdOk : Instr → Bool
  | .rsdStart | .rsdByte _ | .rsdDecode _ | .decStart | .decBlock => true
  | _ => false

/-- Commands that write `OUT_CNT`. -/
def writesOutCnt : Instr → Bool
  | .decStart | .decBlock => true
  | _ => false

/-- Commands that write `FRAME_VALID`. -/
def writesFrameValid : Instr → Bool
  | .decStart | .decFrame | .decBlock | .flgRescale | .csrwGeomW _ | .csrwGeomH _ | .csrwGeomB _ => true
  | _ => false

/-- Commands that write `LEN_SET` and `TGT_LEN` (R42). -/
def writesLength : Instr → Bool
  | .csrwTgtLen _ => true
  | _ => false

/-- Commands that write `FRAME` (R65). -/
def writesFrame : Instr → Bool
  | .encStart | .encByte _ | .encEnd => true
  | _ => false

/-- Commands that a faulted block still executes (R298). -/
def runsWhenFaulted : Instr → Bool
  | .sysReset | .csrr _ => true
  | _ => false

/-! ### Encodings as the rules give them -/

/-- "Operand `arg[n-1:0]`; the rest of `arg` must be 0. Encoding `op`" (R83, R85). -/
def Encodes (op : BitVec 8) (n : Nat) (mk : BitVec n → Instr) : Prop :=
  ∀ arg : Word48, decode (commandWord op arg) =
    if arg.toNat < 2 ^ n then .ok (mk (arg.setWidth n)) else .error .operandBits

/-- "Operands: none; `arg` must be 0. Encoding `op`" (R83, R85). -/
def EncodesBare (op : BitVec 8) (i : Instr) : Prop :=
  ∀ arg : Word48, decode (commandWord op arg) = if arg = 0 then .ok i else .error .operandBits

/-- The `op` and `arg` fields of the legal commands, the table of R85 by its numbers. -/
def LegalFields (op : BitVec 8) (arg : Word48) : Prop :=
  (op ∈ [0x01#8, 0x40#8, 0x50#8, 0x60#8, 0x62#8, 0x63#8, 0x64#8, 0x70#8, 0x73#8, 0x81#8, 0x90#8, 0x92#8,
      0xA0#8, 0xA1#8, 0xA2#8, 0xA3#8] ∧ arg = 0) ∨
  (op = 0x02 ∧ (arg = 4 ∨ arg = 5)) ∨
  (op = 0x10 ∧ arg.toNat < 8) ∨
  (op ∈ [0x20#8, 0x30#8, 0x31#8, 0x32#8, 0x33#8, 0x34#8, 0x35#8, 0x61#8] ∧ arg.toNat < 16777216) ∨
  (op ∈ [0x41#8, 0x42#8, 0x51#8, 0x53#8, 0x54#8, 0x72#8, 0x80#8, 0x82#8, 0x91#8] ∧ arg.toNat < 256) ∨
  (op = 0x52 ∧ arg.toNat < 2) ∨
  (op = 0x71 ∧ arg.toNat < 16) ∨
  (0xE0 ≤ op.toNat ∧ op.toNat ≤ 0xEF ∧ arg = 0) ∨
  (op ∈ [0xF2#8, 0xF3#8, 0xF4#8] ∧ arg.toNat < 4096) ∨
  (op = 0xF9 ∧ arg.toNat < 2) ∨
  op = 0xFA

end Sys2Proof.Machine
end

