-- ==== Sys2Proof/Certificates/Slice0/Obligations.lean ====
section
/-!
DEFINITION. The statements for the provers. Each formalises the rules of spec/ that its docstring names; where it rests
on a choice of the model it says so and names the entry of the assumption log.
-/

section

open Sys2Proof Sys2Proof.Machine

/-! ### Encoding and steps -/

/-- DECODE AND ENCODE AGREE: every operation with every operand its field admits decodes back from its word
(R81 to R83, R85, R88). -/
def Obligations.DecodeEncodeRoundTrip : Prop := ∀ i : Instr, decode (encode i) = .ok i

/-- The other direction: each word has one meaning, so a legal word is the encoding of what it decodes to (R88). -/
def Obligations.EncodeDecodeRoundTrip : Prop := ∀ (w : Word) (i : Instr), decode w = .ok i → encode i = w

/-- The decoder accepts exactly the words that select a row of the opcode table, and no word selects two rows (R88). -/
def Obligations.DecoderFollowsOpcodeTable : Prop :=
  (∀ w : Word, (∃ i, decode w = .ok i) ↔ ∃ row ∈ opcodeRows, w &&& row.mask = row.pattern) ∧
  (∀ (w : Word) (a b : OpcodeRow), a ∈ opcodeRows → b ∈ opcodeRows →
    w &&& a.mask = a.pattern → w &&& b.mask = b.pattern → a = b)

/-- Words written out from the tables of R81 to R85 decode to the commands they stand for. -/
def Obligations.WrittenOutWordsDecode : Prop :=
  decode 0x0100000000000000 = .ok .sysReset ∧ decode 0x0200000000000005 = .ok .sysAbortSource ∧
  decode 0x1000000000000004 = .ok (.aceColorof 4) ∧ decode 0x2000000000FFFF00 = .ok (.acdDigitof 0xFFFF00) ∧
  decode 0x3500000000000001 = .ok (.bccClassify 1) ∧ decode 0x4100000000000007 = .ok (.rseByte 7) ∧
  decode 0x5200000000000001 = .ok (.rsdDecode 1) ∧ decode 0x6100000000FFE000 = .ok (.flgBlkorg 16769024) ∧
  decode 0x710000000000000D = .ok (.sspPush 1 5) ∧ decode 0x820000000000002A = .ok (.dscExpand 0x2A) ∧
  decode 0x9100000000000007 = .ok (.encByte 7) ∧ decode 0xA200000000000000 = .ok .decBlock ∧
  decode 0xE700000000000000 = .ok (.csrr 7) ∧ decode 0xF20000000000000C = .ok (.csrwGeomW 12) ∧
  decode 0xFA00FFFFFFFFFFFF = .ok (.csrwTgtLen 0xFFFFFFFFFFFF)

/-- A STEP RUNS THE DECODED COMMAND: the word at the head of the inbox is taken out of it, decoded and executed, and
`withFetchWord` puts an encoded command there. That the port is a list in the state is the model's choice (log 3). -/
def Obligations.StepRunsDecodedCommand : Prop :=
  (∀ (s : State) (w : Word) (rest : List HostAction) (i : Instr),
    s.inbox = .command w :: rest → decode w = .ok i → step s = exec i { s with inbox := rest }) ∧
  (∀ (s : State) (i : Instr), step (s.withFetchWord 64 (encode i).toNat) = exec i s) ∧
  (∀ s : State, s.inbox = [] → step s = .next s)

/-- R86: a word is illegal exactly when its fields are not in the table of R85; an illegal command given to a block that
is not faulted faults IllegalCommand with its `op` byte and changes nothing else. -/
def Obligations.IllegalCommandsFault : Prop :=
  (∀ w : Word, (∃ e, decode w = .error e) ↔ ¬ (rsvdOf w = 0 ∧ LegalFields (opOf w) (argOf w))) ∧
  (∀ (s : State) (w : Word) (rest : List HostAction) (e : DecodeError),
    s.inbox = .command w :: rest → decode w = .error e → s.fault = none →
    step s = .next { s with
      inbox := rest, fault := some .illegalCommand, finfo := (opOf w).setWidth 48, response := some ⟨6, 0, []⟩ })

/-! ### The whole machine -/

/-- R298: a faulted block refuses every command but `SYS.RESET` and `CSRR`, illegal ones too; the two others work. -/
def Obligations.FaultedBlockRefuses : Prop :=
  ∀ (s : State) (w : Word) (rest : List HostAction), s.fault ≠ none → s.inbox = .command w :: rest →
    (decode w = .ok .sysReset →
      step s = .next (({ s with inbox := rest } : State).resetRegisters.answer 0 [])) ∧
    (∀ n, decode w = .ok (.csrr n) → step s = .next (({ s with inbox := rest } : State).answer (csrValue n s) [])) ∧
    (decode w ≠ .ok .sysReset → (∀ n, decode w ≠ .ok (.csrr n)) →
      step s = .next { s with inbox := rest, response := some ⟨0xF, 0, []⟩ })

/-- R296: when a command raises a fault nothing of the command itself happens; `FAULT` and `FINFO` are latched and the
response is the code with no value and no events. -/
def Obligations.FaultEntryIsAtomic : Prop :=
  ∀ (s t : State) (w : Word) (rest : List HostAction),
    s.fault = none → s.inbox = .command w :: rest → step s = .next t →
    (t.fault ≠ none ∨ ∃ r, t.response = some r ∧ r.status ≠ 0) →
    ∃ kind info, t = { s with
      inbox := rest, fault := some kind, finfo := info, response := some ⟨faultCode kind, 0, []⟩ }

/-- AN INVARIANT THAT EVERY STEP KEEPS: the parameters meet R9, the memory is canonical and inside the physical array
(R50), every register is in the range of R23, the cursor is inside the grid (R24), a full codeword ends on a byte
boundary (R223), `FINFO` is 0 while not faulted (R32), and a response that is not `ok` carries nothing (R84). -/
def Obligations.StepKeepsTheMachineWellFormed : Prop :=
  ∀ s t : State, Inv s → step s = .next t → Inv t

/-- The state after reset meets the invariant, whatever the OPEN parameters are (log 1). -/
def Obligations.ResetMeetsTheInvariant : Prop := Inv State.reset ∧ ∀ cfg : Params, cfg.WellFormed → Inv (State.init cfg)

/-- R16, R80: a command given to a block in a state that meets the invariant is always answered: the model stops on
none, so its own stop (log 8) is never taken there. -/
def Obligations.EveryCommandIsAnswered : Prop :=
  ∀ (s : State) (w : Word) (rest : List HostAction), Inv s → s.inbox = .command w :: rest →
    ∃ t r, step s = .next t ∧ t.inbox = rest ∧ t.response = some r

/-- R31, R299: a latched fault and its information stay until a reset, and only `SYS.RESET` or the hardware reset ends
the faulted state. -/
def Obligations.OnlyResetLeavesTheFaultedState : Prop :=
  ∀ s t : State, s.fault ≠ none → step s = .next t →
    (t.fault = s.fault ∧ t.finfo = s.finfo) ∨
    (t.fault = none ∧ t.finfo = 0 ∧
      ((∃ rest, s.inbox = .hardwareReset :: rest) ∨
       (∃ w rest, s.inbox = .command w :: rest ∧ decode w = .ok .sysReset)))

/-- R65: `ENC.START`, `ENC.BYTE` and `ENC.END` are the only commands that write `FRAME`, and they write no byte
outside the addressable range `0 .. 3*GEOM_W*GEOM_H - 1` (R50, R62). -/
def Obligations.OnlyEncodeCommandsWriteFrame : Prop :=
  ∀ (i : Instr) (s t : State), exec i s = .next t →
    (writesFrame i = false → ∀ a, t.readByte a = s.readByte a) ∧
    (0 < s.cnt → s.cur.toNat < s.cnt → ∀ a, 3 * s.geomW.toNat * s.geomH.toNat ≤ a → t.readByte a = s.readByte a)

/-- R23, column "written by": a command other than `SYS.RESET` writes a register only if it is listed for it. That
`ENC.START` may write `DSC_BYTE` follows R241 and not that column (log 6). -/
def Obligations.OnlyListedCommandsWriteRegisters : Prop :=
  ∀ (i : Instr) (s t : State), i ≠ .sysReset → exec i s = .next t →
    (t.cur ≠ s.cur → writesCur i = true) ∧
    (t.dscByte ≠ s.dscByte → writesDscByte i = true) ∧
    (t.dscPh ≠ s.dscPh → writesDscPh i = true) ∧
    (t.dacc ≠ s.dacc ∨ t.dcnt ≠ s.dcnt → writesDigits i = true) ∧
    (t.cwbuf ≠ s.cwbuf → writesCwbuf i = true) ∧
    (t.cwcnt ≠ s.cwcnt ∨ t.cflag ≠ s.cflag → writesCwcnt i = true) ∧
    (t.cwidx ≠ s.cwidx → writesCwidx i = true) ∧
    (t.par ≠ s.par ∨ t.rseCnt ≠ s.rseCnt → writesPar i = true) ∧
    (t.rsdBuf ≠ s.rsdBuf → writesRsdBuf i = true) ∧
    (t.rsdCnt ≠ s.rsdCnt → writesRsdCnt i = true) ∧
    (t.rsdOk ≠ s.rsdOk → writesRsdOk i = true) ∧
    (t.outCnt ≠ s.outCnt → writesOutCnt i = true) ∧
    (t.frameValid ≠ s.frameValid → writesFrameValid i = true) ∧
    (t.lenSet ≠ s.lenSet ∨ t.tgtLen ≠ s.tgtLen → writesLength i = true) ∧
    (t.geomW ≠ s.geomW → ∃ v, i = .csrwGeomW v) ∧
    (t.geomH ≠ s.geomH → ∃ v, i = .csrwGeomH v) ∧
    (t.geomB ≠ s.geomB → i = .flgRescale ∨ ∃ v, i = .csrwGeomB v) ∧
    (t.clsCtrl ≠ s.clsCtrl → ∃ v, i = .csrwClsCtrl v) ∧
    t.cfg = s.cfg ∧ t.frameEpoch = s.frameEpoch ∧ t.inbox = s.inbox

/-- R253: `OUT_CNT` moves by the number of `OutByte` events of the command, and only `DEC.START` and `SYS.RESET`
restart it. -/
def Obligations.OutputCounterCountsOutBytes : Prop :=
  (∀ (i : Instr) (s t : State) (r : Response), i ≠ .sysReset → i ≠ .decStart →
    exec i s = .next t → t.response = some r →
    t.outCnt = s.outCnt + BitVec.ofNat 48 (r.events.filterMap Event.payload).length) ∧
  (∀ s t : State, exec .decStart s = .next t → t.fault = none → t.outCnt = 0)

/-! ### Reset, system, control and status registers, the host -/

/-- R53, R320: every register of the state after reset, the arrays all 0 at their lengths. That the port is empty and
the count of hardware resets 0 is the model's choice (logs 2, 3). -/
def Obligations.ResetStateValues : Prop :=
  let s := State.reset
  s.cur = 0 ∧ s.dscByte = 0 ∧ s.dscPh = 0 ∧ s.dacc = 0 ∧ s.dcnt = 0 ∧ s.cwbuf = List.replicate s.cfg.N 0 ∧
  s.cwcnt = 0 ∧ s.cflag = false ∧ s.cwidx = 0 ∧ s.par = List.replicate s.cfg.P 0 ∧ s.rseCnt = 0 ∧
  s.rsdBuf = List.replicate s.cfg.N 0 ∧ s.rsdCnt = 0 ∧ s.rsdOk = false ∧ s.outCnt = 0 ∧ s.frameValid = false ∧
  s.lenSet = false ∧ s.fault = none ∧ s.finfo = 0 ∧ s.geomW = 0 ∧ s.geomH = 0 ∧ s.geomB = 0 ∧
  s.clsCtrl = .nearestCorner ∧ s.tgtLen = 0 ∧ s.cfg.WellFormed ∧
  csrValue 0 s = 0x40 ∧ csrValue 5 s = 0 ∧ csrValue 6 s = 0 ∧ csrValue 7 s = 0 ∧
  s.frameEpoch = 0 ∧ s.inbox = [] ∧ s.response = none

/-- R271: `SYS.RESET` completes in every state, the faulted one included: every register gets its reset value, `FRAME`
keeps every byte, `STATUS` then reads 0x40; with another `arg` it is illegal. -/
def Obligations.SystemResetClearsTheRegisters : Prop :=
  EncodesBare 0x01 .sysReset ∧
  (∀ s : State, s.cfg.WellFormed →
    ∃ t, exec .sysReset s = .next t ∧
      t = { State.init s.cfg with
        frame := s.frame, frameEpoch := s.frameEpoch, inbox := s.inbox, response := some ⟨0, 0, []⟩ } ∧
      (∀ a, t.readByte a = s.readByte a) ∧ csrValue 0 t = 0x40) ∧
  (∀ (s : State) (w : Word), opOf w = 0x01 → w ≠ 0x0100000000000000 →
    present w s = .next
      (match s.fault with
       | none => { s with fault := some .illegalCommand, finfo := 1, response := some ⟨6, 0, []⟩ }
       | some _ => { s with response := some ⟨0xF, 0, []⟩ }))

/-- R320, R312 d: the hardware reset puts every register to its reset value; the bytes of `FRAME` become the free bytes
of a new epoch, of which nothing is known, and the response is gone: the model's choice (logs 2, 5). -/
def Obligations.HardwareResetClearsTheBlock : Prop :=
  ∀ (s : State) (rest : List HostAction), s.inbox = .hardwareReset :: rest →
    ∃ t, step s = .next t ∧
      t = { State.init s.cfg with frameEpoch := s.frameEpoch + 1, inbox := rest } ∧
      ∀ a, t.readByte a = Config.powerOnByte (s.frameEpoch + 1) a

/-- R272: `SYS.ABORT` with code 4 or 5 always faults with that code; any other code is illegal. -/
def Obligations.SystemAbortFaults : Prop :=
  decode 0x0200000000000004 = .ok .sysAbortSink ∧ decode 0x0200000000000005 = .ok .sysAbortSource ∧
  (∀ code : Word48, code ≠ 4 → code ≠ 5 → ∃ e, decode (commandWord 0x02 code) = .error e) ∧
  (∀ s : State, s.fault = none →
    exec .sysAbortSink s =
      .next { s with fault := some .sinkUnavailable, finfo := 0, response := some ⟨4, 0, []⟩ }) ∧
  (∀ s : State, s.fault = none →
    exec .sysAbortSource s =
      .next { s with fault := some .sourceUnavailable, finfo := 0, response := some ⟨5, 0, []⟩ })

/-- R274 with the fields of R32 to R45: `CSRR n` completes in every state, changes nothing but the response, and gives
the value of CSR `n`, the derived ones computed at this moment. -/
def Obligations.CsrReadsGiveTheirValues : Prop :=
  (∀ n : BitVec 4, EncodesBare (0xE0 + n.setWidth 8) (.csrr n)) ∧
  (∀ (n : BitVec 4) (s : State), exec (.csrr n) s = .next { s with response := some ⟨0, csrValue n s, []⟩ }) ∧
  (∀ s : State, s.cfg.WellFormed →
    csrValue 1 s = s.finfo ∧
    csrValue 2 s = s.geomW.setWidth 48 ∧ csrValue 3 s = s.geomH.setWidth 48 ∧ csrValue 4 s = s.geomB.setWidth 48 ∧
    (csrValue 5 s).toNat = s.geomW.toNat / s.geomB.toNat ∧
    (csrValue 6 s).toNat = s.geomH.toNat / s.geomB.toNat ∧
    (csrValue 7 s).toNat = (s.geomW.toNat / s.geomB.toNat) * (s.geomH.toNat / s.geomB.toNat) ∧
    csrValue 8 s = s.cur.setWidth 48 ∧
    csrValue 9 s = (if s.clsCtrl = .nearestCorner then 0 else 1) ∧
    csrValue 10 s = s.tgtLen ∧ csrValue 11 s = s.outCnt ∧ csrValue 12 s = s.cwidx ∧
    (csrValue 13 s).toNat = 65536 * (s.cfg.K + s.cfg.P) + 256 * s.cfg.K + s.cfg.P ∧
    (csrValue 14 s).toNat = 256 * s.cfg.tHi + s.cfg.tLo ∧
    (csrValue 15 s).toNat = 4096 * s.cfg.wRef + s.cfg.bRef)

/-- R30: the fields of `STATUS`, its reserved bits, its value after reset, and that it is read-only. -/
def Obligations.StatusFieldsReadTheRegisters : Prop :=
  (∀ s : State,
    let v := csrValue 0 s
    (s.fault = none → v.extractLsb' 0 4 = 0) ∧
    (∀ kind, s.fault = some kind → v.extractLsb' 0 4 = faultCode kind) ∧
    v.getLsbD 4 = s.frameValid ∧ v.getLsbD 5 = s.cflag ∧
    (v.getLsbD 6 = true ↔ s.tgtLen.toNat ≤ s.outCnt.toNat) ∧
    (v.getLsbD 7 = true ↔ s.cwcnt.toNat = s.cfg.N) ∧
    v.extractLsb' 8 2 = s.dcnt ∧ v.extractLsb' 10 2 = s.dscPh ∧
    v.getLsbD 12 = s.rsdOk ∧ v.getLsbD 13 = s.lenSet ∧ v.extractLsb' 14 34 = 0) ∧
  csrValue 0 State.reset = 0x40 ∧ ∀ arg : Word48, decode (commandWord 0xF0 arg) = .error .readOnlyCsr

/-- R275 with R40 and R42: a write to one of the five writable CSRs; a write to another CSR or of a value above the field
width faults IllegalCommand with the `op` byte. -/
def Obligations.CsrWritesTakeEffect : Prop :=
  Encodes 0xF2 12 .csrwGeomW ∧ Encodes 0xF3 12 .csrwGeomH ∧ Encodes 0xF4 12 .csrwGeomB ∧
  Encodes 0xF9 1 .csrwClsCtrl ∧ Encodes 0xFA 48 .csrwTgtLen ∧
  (∀ (n : BitVec 4) (arg : Word48), n ≠ 2 → n ≠ 3 → n ≠ 4 → n ≠ 9 → n ≠ 10 →
    decode (commandWord (0xF0 + n.setWidth 8) arg) = .error .readOnlyCsr) ∧
  (∀ (s : State) (n : BitVec 4) (arg : Word48) (e : DecodeError), s.fault = none →
    decode (commandWord (0xF0 + n.setWidth 8) arg) = .error e →
    present (commandWord (0xF0 + n.setWidth 8) arg) s =
      .next { s with
        fault := some .illegalCommand, finfo := 0xF0 + n.setWidth 48, response := some ⟨6, 0, []⟩ }) ∧
  (∀ s : State, s.fault = none →
    (∀ v, exec (.csrwGeomW v) s =
      .next { s with geomW := v, cur := 0, frameValid := false, response := some ⟨0, 0, []⟩ }) ∧
    (∀ v, exec (.csrwGeomH v) s =
      .next { s with geomH := v, cur := 0, frameValid := false, response := some ⟨0, 0, []⟩ }) ∧
    (∀ v, exec (.csrwGeomB v) s =
      .next { s with geomB := v, cur := 0, frameValid := false, response := some ⟨0, 0, []⟩ }) ∧
    (∀ v, exec (.csrwClsCtrl v) s =
      .next { s with
        clsCtrl := (if v = 0 then .nearestCorner else .thresholded), response := some ⟨0, 0, []⟩ }) ∧
    (∀ v, exec (.csrwTgtLen v) s =
      .next { s with tgtLen := v, lenSet := true, response := some ⟨0, 0, []⟩ }))

/-- R312 b: a host load writes exactly the addressable range, byte by byte in address order, and changes no register.
That it is taken in every state, and that a raster of another length is refused, is the model's reading (log 4). -/
def Obligations.HostLoadWritesTheFrame : Prop :=
  ∀ (s : State) (raster : List Byte) (rest : List HostAction), s.inbox = .loadFrame raster :: rest →
    (raster.length = 3 * s.geomW.toNat * s.geomH.toNat →
      ∃ t, step s = .next t ∧ t = { s with inbox := rest, frame := t.frame } ∧
        ∀ a, t.readByte a = if a < raster.length then raster.getD a 0 else s.readByte a) ∧
    (raster.length ≠ 3 * s.geomW.toNat * s.geomH.toNat → step s = .refused .rasterSize)

/-! ### The alphabet -/

/-- R102, R104 with the table of R100: `ACE.COLOROF` looks a digit up; `ACD.DIGITOF` gives the digit of an alphabet
colour and faults UnknownColor with the colour on any other. -/
def Obligations.AlphabetCommandsUseTheTable : Prop :=
  Encodes 0x10 3 .aceColorof ∧ Encodes 0x20 24 .acdDigitof ∧
  (∀ (s : State) (d : BitVec 3), s.fault = none →
    exec (.aceColorof d) s = .next { s with
      response := some ⟨0, ([0x000000, 0xFF0000, 0x00FF00, 0x0000FF, 0xFFFF00, 0x00FFFF, 0xFF00FF, 0xFFFFFF] :
        List Word48).getD d.toNat 0, []⟩ }) ∧
  (∀ (s : State) (d : BitVec 3), s.fault = none →
    exec (.acdDigitof (([0x000000, 0xFF0000, 0x00FF00, 0x0000FF, 0xFFFF00, 0x00FFFF, 0xFF00FF, 0xFFFFFF] :
      List (BitVec 24)).getD d.toNat 0)) s = .next { s with response := some ⟨0, d.setWidth 48, []⟩ }) ∧
  (∀ (s : State) (c : BitVec 24), s.fault = none →
    c ∉ ([0x000000, 0xFF0000, 0x00FF00, 0x0000FF, 0xFFFF00, 0x00FFFF, 0xFF00FF, 0xFFFFFF] : List (BitVec 24)) →
    exec (.acdDigitof c) s = .next { s with
      fault := some .unknownColor, finfo := c.setWidth 48, response := some ⟨1, 0, []⟩ })

/-- R105: digits and corner colours correspond one to one. -/
def Obligations.AlphabetIsABijection : Prop :=
  (∀ d : Digit, digitOf (colorRom d) = some d) ∧
  (∀ c : Color, c.IsCorner → ∃ d, digitOf c = some d ∧ colorRom d = c)

/-! ### The block classifier -/

/-- R133, R134, R136 with R132 and R135: the three commands on one pixel, by the numbers of its channels. -/
def Obligations.PixelCommandsCompute : Prop :=
  Encodes 0x30 24 .bccScore ∧ Encodes 0x31 24 .bccSnap ∧ Encodes 0x32 24 .bccThresh ∧
  ∀ (s : State) (p : BitVec 24), s.fault = none → s.cfg.WellFormed →
    let r := p.toNat / 65536
    let g := p.toNat / 256 % 256
    let b := p.toNat % 256
    let score1 : Nat → Nat := fun v => min (255 - v) v
    let snap1 : Nat → Nat := fun v => if v < 128 then 0 else 255
    let lvl : Nat → Nat := fun v => if v < s.cfg.tLo then 0 else 255
    let dead : Nat → Prop := fun v => s.cfg.tLo ≤ v ∧ v ≤ s.cfg.tHi
    exec (.bccScore p) s =
      .next { s with response := some ⟨0, BitVec.ofNat 48 (score1 r + score1 g + score1 b), []⟩ } ∧
    exec (.bccSnap p) s =
      .next { s with response := some ⟨0, BitVec.ofNat 48 (65536 * snap1 r + 256 * snap1 g + snap1 b), []⟩ } ∧
    (digitOf (snap (colorOfWord p))).isSome = true ∧
    (dead r ∨ dead g ∨ dead b →
      exec (.bccThresh p) s = .next { s with response := some ⟨0, 0x1000000, []⟩ }) ∧
    (¬ (dead r ∨ dead g ∨ dead b) →
      exec (.bccThresh p) s =
        .next { s with response := some ⟨0, BitVec.ofNat 48 (65536 * lvl r + 256 * lvl g + lvl b), []⟩ })

/-- R138, R142, R144 with R131: the three commands on one block, with their faults in the order of R294. -/
def Obligations.BlockCommandsClassify : Prop :=
  Encodes 0x33 24 .bccClsnc ∧ Encodes 0x34 24 .bccClsth ∧ Encodes 0x35 24 .bccClassify ∧
  (∀ (s : State) (i : BitVec 24), s.fault = none → i.toNat < s.cnt →
    (∃ c, s.classifyNearest i.toNat = .resolved c ∧
      exec (.bccClsnc i) s = .next { s with response := some ⟨0, c.toWord.setWidth 48, []⟩ }) ∧
    exec (.bccClsth i) s = .next { s with response := some ⟨0,
      (match s.classifyThreshold i.toNat with
       | .resolved c => c.toWord.setWidth 48
       | .indeterminate => 0x1000000), []⟩ } ∧
    exec (.bccClassify i) s = .next { s with response := some ⟨0,
      (match (if s.clsCtrl = .nearestCorner then s.classifyNearest i.toNat else s.classifyThreshold i.toNat) with
       | .resolved c => c.toWord.setWidth 48
       | .indeterminate => 0x1000000), []⟩ }) ∧
  (∀ (s : State) (i : BitVec 24), s.fault = none → s.cnt = 0 →
    exec (.bccClsnc i) s = .next (s.takeFault .configError 0x33) ∧
    exec (.bccClsth i) s = .next (s.takeFault .configError 0x34) ∧
    exec (.bccClassify i) s = .next (s.takeFault .configError 0x35)) ∧
  (∀ (s : State) (i : BitVec 24), s.fault = none → 0 < s.cnt → s.cnt ≤ i.toNat →
    exec (.bccClsnc i) s = .next (s.takeFault .operandRange 0x33) ∧
    exec (.bccClsth i) s = .next (s.takeFault .operandRange 0x34) ∧
    exec (.bccClassify i) s = .next (s.takeFault .operandRange 0x35))

/-- R137 with R112: strategy 0 keeps the first pixel of the block, in row-major order, whose score is least, and snaps
it. -/
def Obligations.NearestCornerKeepsTheFirstMinimum : Prop :=
  ∀ (s : State) (i : Nat), i < s.cnt →
    let px : Nat → Color := fun n =>
      s.pixel (i % s.cols * s.geomB.toNat + n % s.geomB.toNat) (i / s.cols * s.geomB.toNat + n / s.geomB.toNat)
    ∃ n, n < s.geomB.toNat * s.geomB.toNat ∧
      (∀ m, m < s.geomB.toNat * s.geomB.toNat → score (px n) ≤ score (px m)) ∧
      (∀ m, m < n → score (px n) < score (px m)) ∧
      s.classifyNearest i = .resolved (snap (px n))

/-- R139, R140, R141 with R143: strategy 1 takes the block centre and those of its eight neighbours that lie inside the
frame, each once, and compares the exact channel sums; for `B >= 3` all nine positions lie inside the block. -/
def Obligations.ThresholdUsesTheClippedNeighbourhood : Prop :=
  ∀ (s : State) (i : Nat), i < s.cnt →
    let B := s.geomB.toNat
    let cx := i % s.cols * B + B / 2
    let cy := i / s.cols * B + B / 2
    let near := s.neighbourhood i
    let n := near.length
    let sum : (Color → Byte) → Nat := fun channel => (near.map fun q => (channel (s.pixel q.1 q.2)).toNat).sum
    let dead : Nat → Prop := fun total => s.cfg.tLo * n ≤ total ∧ total ≤ s.cfg.tHi * n
    let lvl : Nat → Byte := fun total => if total < s.cfg.tLo * n then 0 else 255
    (∀ x y, (x, y) ∈ near ↔
      cx ≤ x + 1 ∧ x ≤ cx + 1 ∧ cy ≤ y + 1 ∧ y ≤ cy + 1 ∧ x < s.geomW.toNat ∧ y < s.geomH.toNat) ∧
    near.Nodup ∧ (cx, cy) ∈ near ∧ 1 ≤ n ∧ n ≤ 9 ∧
    (1 ≤ cx → cx + 1 < s.geomW.toNat → 1 ≤ cy → cy + 1 < s.geomH.toNat → n = 9) ∧
    (3 ≤ B → n = 9 ∧ ∀ q ∈ near, q ∈ s.blockPixels i) ∧
    (dead (sum Color.r) ∨ dead (sum Color.g) ∨ dead (sum Color.b) → s.classifyThreshold i = .indeterminate) ∧
    (¬ (dead (sum Color.r) ∨ dead (sum Color.g) ∨ dead (sum Color.b)) →
      s.classifyThreshold i = .resolved ⟨lvl (sum Color.r), lvl (sum Color.g), lvl (sum Color.b)⟩)

/-- R146: an undistorted block resolves to its colour with strategy 0, and with strategy 1 under its preconditions. -/
def Obligations.UndistortedBlocksResolve : Prop :=
  ∀ (s : State) (i : Nat) (c : Color), i < s.cnt → c.IsCorner →
    (∀ q ∈ s.blockPixels i, s.pixel q.1 q.2 = c) →
    s.classifyNearest i = .resolved c ∧
    (3 ≤ s.geomB.toNat → 1 ≤ s.cfg.tLo → s.cfg.tHi ≤ 254 → s.cfg.WellFormed → s.classifyThreshold i = .resolved c)

/-- R145: a resolved colour is a corner colour, so its digit exists. -/
def Obligations.ResolvedColoursAreCorners : Prop :=
  ∀ (s : State) (i : Nat) (c : Color), s.classifyNearest i = .resolved c ∨ s.classifyThreshold i = .resolved c →
    c.IsCorner ∧ ∃ d, digitOf c = some d

/-! ### The field and the code -/

/-- R161, R164 and the laws of R162: bytes under `gfAdd` and `gfMul` are a field in which doubling reduces by 0x11D. -/
def Obligations.BytesFormTheField : Prop :=
  (∀ a b : Byte, gfAdd a b = a ^^^ b) ∧ (∀ a : Byte, gfAdd a a = 0) ∧
  (∀ a : Byte, gfMul a 0 = 0) ∧ (∀ a : Byte, gfMul a 1 = a) ∧
  (∀ a : Byte, gfMul a 0x02 = if a.getLsbD 7 then (a <<< 1) ^^^ 0x1D else a <<< 1) ∧
  (∀ a b : Byte, gfMul a b = gfMul b a) ∧
  (∀ a b c : Byte, gfMul (gfMul a b) c = gfMul a (gfMul b c)) ∧
  (∀ a b c : Byte, gfMul a (gfAdd b c) = gfAdd (gfMul a b) (gfMul a c)) ∧
  (∀ a : Byte, a ≠ 0 → gfMul a (gfInv a) = 1 ∧ gfInv a = gfPow a 254 ∧ ∀ b, gfMul a b = 1 → b = gfInv a) ∧
  gfInv 0x02 = 0x8E ∧ gfInv 0x53 = 0x8C ∧ gfInv 0xFF = 0xFD

/-- R163: the powers of `ALPHA` are the 255 non-zero elements, each once. -/
def Obligations.AlphaIsPrimitive : Prop :=
  (∀ a : Byte, gfPow a 0 = 1) ∧ (∀ (a : Byte) (n : Nat), gfPow a (n + 1) = gfMul (gfPow a n) a) ∧
  (∀ m n : Nat, m < 255 → n < 255 → gfPow 0x02 m = gfPow 0x02 n → m = n) ∧
  (∀ a : Byte, a ≠ 0 ↔ ∃ n, n < 255 ∧ gfPow 0x02 n = a) ∧ gfPow 0x02 255 = 1 ∧
  (List.range 20).map (gfPow 0x02) =
    [0x01, 0x02, 0x04, 0x08, 0x10, 0x20, 0x40, 0x80, 0x1D, 0x3A, 0x74, 0xE8, 0xCD, 0x87, 0x13, 0x26, 0x4C, 0x98,
     0x2D, 0x5A] ∧
  gfPow 0x02 25 = 0x03 ∧ gfPow 0x02 254 = 0x8E

/-- R166, R167: the generator polynomial is monic of degree `P` with the roots `ALPHA^0 .. ALPHA^(P-1)`; a syndrome is
the sum of R167; codewords are closed under addition and two different ones differ in at least `P + 1` positions. -/
def Obligations.CodewordsAreFarApart : Prop :=
  (∀ P : Nat, (generator P).length = P + 1 ∧ (generator P).head? = some 1 ∧
    ∀ j, j < P → polyEval (generator P) (gfPow 0x02 j) = 0) ∧
  (∀ (r : List Byte) (j : Nat),
    syndrome r j = gfSum ((List.range r.length).map fun i =>
      gfMul (r.getD i 0) (gfPow 0x02 (j * (r.length - 1 - i))))) ∧
  (∀ (P : Nat) (r : List Byte), isCodeword P r = true ↔ ∀ j, j < P → syndrome r j = 0) ∧
  (∀ r : List Byte, isCodeword 0 r = true) ∧
  (∀ (P : Nat) (a b : List Byte), a.length = b.length → isCodeword P a = true → isCodeword P b = true →
    isCodeword P (List.zipWith gfAdd a b) = true) ∧
  (∀ (P : Nat) (a b : List Byte), a.length = b.length → a.length ≤ 255 → isCodeword P a = true →
    isCodeword P b = true → a ≠ b → P + 1 ≤ hammingDist a b)

/-- R170, R171, R172 with R169: the encoder unit's commands. -/
def Obligations.EncoderUnitCommands : Prop :=
  EncodesBare 0x40 .rseStart ∧ Encodes 0x41 8 .rseByte ∧ Encodes 0x42 8 .rsePar ∧
  (∀ s : State, s.fault = none →
    exec .rseStart s =
      .next { s with par := List.replicate s.cfg.P 0, rseCnt := 0, response := some ⟨0, 0, []⟩ }) ∧
  (∀ (s : State) (m : Byte), s.fault = none → s.par.length = s.cfg.P → s.rseCnt.toNat ≠ s.cfg.K →
    ∃ regs : List Byte, regs.length = s.cfg.P ∧
      (∀ i, i < s.cfg.P → regs.getD i 0 =
        gfAdd (s.par.getD (i + 1) 0)
          (gfMul (gfAdd m (s.par.getD 0 0)) ((generator s.cfg.P).getD (i + 1) 0))) ∧
      exec (.rseByte m) s =
        .next { s with par := regs, rseCnt := s.rseCnt + 1, response := some ⟨0, m.setWidth 48, []⟩ }) ∧
  (∀ (s : State) (m : Byte), s.fault = none → s.rseCnt.toNat = s.cfg.K →
    exec (.rseByte m) s = .next (s.takeFault .sequenceError 0x41)) ∧
  (∀ (s : State) (j : Byte), s.fault = none →
    (s.rseCnt.toNat = s.cfg.K → j.toNat < s.cfg.P →
      exec (.rsePar j) s = .next { s with response := some ⟨0, (s.par.getD j.toNat 0).setWidth 48, []⟩ }) ∧
    (s.rseCnt.toNat ≠ s.cfg.K → exec (.rsePar j) s = .next (s.takeFault .sequenceError 0x42)) ∧
    (s.rseCnt.toNat = s.cfg.K → s.cfg.P ≤ j.toNat → exec (.rsePar j) s = .next (s.takeFault .operandRange 0x42)))

/-- R173: after `RSE.START` and `K` times `RSE.BYTE` the message and the shift register are `rs_encode(m)`. -/
def Obligations.ShiftRegisterComputesTheParity : Prop :=
  ∀ (s : State) (m : List Byte), Inv s → s.fault = none → m.length = s.cfg.K →
    ∃ t, session (.rseStart :: m.map .rseByte) s = some (t, []) ∧ m ++ t.par = rsEncode s.cfg.P m ∧
      t.rseCnt.toNat = s.cfg.K

/-- R168: `rs_encode(m)` begins with `m`, is a codeword, and is the only codeword of its length that begins with `m`. -/
def Obligations.EncodingIsSystematicAndUnique : Prop :=
  ∀ (P : Nat) (m : List Byte), m.length + P ≤ 255 →
    (rsEncode P m).length = m.length + P ∧ (rsEncode P m).take m.length = m ∧ isCodeword P (rsEncode P m) = true ∧
    ∀ c : List Byte, c.length = m.length + P → c.take m.length = m → isCodeword P c = true → c = rsEncode P m

/-- R180, R181, R185, R186, and the framing of R189: the decoder unit's commands but `RSD.DECODE`. -/
def Obligations.DecoderUnitCommands : Prop :=
  EncodesBare 0x50 .rsdStart ∧ Encodes 0x51 8 .rsdByte ∧ Encodes 0x53 8 .rsdRead ∧ Encodes 0x54 8 .rsdSynd ∧
  (∀ s : State, s.fault = none →
    exec .rsdStart s = .next { s with rsdCnt := 0, rsdOk := false, response := some ⟨0, 0, []⟩ }) ∧
  (∀ (s : State) (b : Byte), s.fault = none →
    (s.rsdCnt.toNat ≠ s.cfg.N → exec (.rsdByte b) s = .next { s with
      rsdBuf := s.rsdBuf.set s.rsdCnt.toNat b, rsdCnt := s.rsdCnt + 1, rsdOk := false,
      response := some ⟨0, 0, []⟩ }) ∧
    (s.rsdCnt.toNat = s.cfg.N → exec (.rsdByte b) s = .next (s.takeFault .sequenceError 0x51))) ∧
  (∀ (s : State) (j : Byte), s.fault = none →
    (s.rsdOk = true → j.toNat < s.cfg.N →
      exec (.rsdRead j) s = .next { s with response := some ⟨0, (s.rsdBuf.getD j.toNat 0).setWidth 48, []⟩ }) ∧
    (s.rsdOk = false → exec (.rsdRead j) s = .next (s.takeFault .sequenceError 0x53)) ∧
    (s.rsdOk = true → s.cfg.N ≤ j.toNat → exec (.rsdRead j) s = .next (s.takeFault .operandRange 0x53))) ∧
  (∀ (s : State) (j : Byte), s.fault = none →
    (s.rsdCnt.toNat = s.cfg.N → j.toNat < s.cfg.P →
      exec (.rsdSynd j) s = .next { s with response := some ⟨0, (syndrome s.rsdBuf j.toNat).setWidth 48, []⟩ }) ∧
    (s.rsdCnt.toNat ≠ s.cfg.N → exec (.rsdSynd j) s = .next (s.takeFault .sequenceError 0x54)) ∧
    (s.rsdCnt.toNat = s.cfg.N → s.cfg.P ≤ j.toNat → exec (.rsdSynd j) s = .next (s.takeFault .operandRange 0x54))) ∧
  (∀ (s : State) (w : List Byte), Inv s → s.fault = none → w.length = s.cfg.N →
    ∃ t, session (.rsdStart :: w.map .rsdByte) s = some (t, []) ∧
      t = { s with rsdBuf := w, rsdCnt := BitVec.ofNat 8 s.cfg.N, rsdOk := false, response := some ⟨0, 0, []⟩ })

/-- R184 (and conflict C6 for `P = 0`): the fast path, the correction, the uncorrectable codeword. -/
def Obligations.DecodeCommandCorrectsOrFaults : Prop :=
  Encodes 0x52 1 .rsdDecode ∧
  (∀ (s : State) (f : BitVec 1), s.fault = none → s.rsdCnt.toNat ≠ s.cfg.N →
    exec (.rsdDecode f) s = .next (s.takeFault .sequenceError 0x52)) ∧
  (∀ s : State, s.fault = none → s.rsdCnt.toNat = s.cfg.N →
    exec (.rsdDecode 0) s = .next { s with rsdOk := true, response := some ⟨0, 0, []⟩ } ∧
    (∀ c, rsCorrect s.cfg.P s.rsdBuf = some c →
      exec (.rsdDecode 1) s = .next { s with
        rsdBuf := c, rsdOk := true, response := some ⟨0, BitVec.ofNat 48 (hammingDist s.rsdBuf c), []⟩ }) ∧
    (rsCorrect s.cfg.P s.rsdBuf = none →
      exec (.rsdDecode 1) s = .next (s.takeFault .uncorrectableCodeword s.cwidx)) ∧
    (isCodeword s.cfg.P s.rsdBuf = true → exec (.rsdDecode 1) s = exec (.rsdDecode 0) s) ∧
    (s.cfg.P = 0 → exec (.rsdDecode 1) s = exec (.rsdDecode 0) s))

/-- R183: `rs_correct(r)` is the codeword within Hamming distance `floor(P/2)` of `r` if there is one, and fails if
there is none; there is never a second one. The algorithm is the model's (log 7), the result is the rule's. -/
def Obligations.CorrectionIsBoundedDistance : Prop :=
  ∀ (P : Nat) (r : List Byte), r.length ≤ 255 →
    (∀ c, rsCorrect P r = some c ↔
      c.length = r.length ∧ isCodeword P c = true ∧ hammingDist r c ≤ P / 2) ∧
    (rsCorrect P r = none ↔
      ∀ c : List Byte, c.length = r.length → isCodeword P c = true → P / 2 < hammingDist r c)

/-- R190 (informative): the reference algorithm (Berlekamp-Massey, root search, Forney) computes `rs_correct`: it gives
the same codeword where there is one and fails where there is none. -/
def Obligations.ReferenceAlgorithmAgrees : Prop :=
  ∀ (P : Nat) (r : List Byte), P % 2 = 0 → r.length ≤ 255 → rsReference P r = rsCorrect P r

/-! ### The frame layout -/

/-- R114 to R117 with R110 and R112: the geometry queries and the cursor commands. -/
def Obligations.LayoutCommandsCompute : Prop :=
  EncodesBare 0x60 .flgBlkcnt ∧ Encodes 0x61 24 .flgBlkorg ∧ EncodesBare 0x62 .flgCurrst ∧
  EncodesBare 0x63 .flgCurnext ∧
  (∀ s : State, s.fault = none →
    let W := s.geomW.toNat
    let H := s.geomH.toNat
    let B := s.geomB.toNat
    let CNT := (W / B) * (H / B)
    exec .flgBlkcnt s = .next { s with response := some ⟨0, BitVec.ofNat 48 CNT, []⟩ } ∧
    exec .flgCurrst s = .next { s with cur := 0, response := some ⟨0, 0, []⟩ } ∧
    (∀ i : BitVec 24, i.toNat < CNT →
      exec (.flgBlkorg i) s = .next { s with response := some ⟨0,
        BitVec.ofNat 48 (4096 * (i.toNat % (W / B) * B) + i.toNat / (W / B) * B), []⟩ }) ∧
    (∀ i : BitVec 24, CNT = 0 → exec (.flgBlkorg i) s = .next (s.takeFault .configError 0x61)) ∧
    (∀ i : BitVec 24, 0 < CNT → CNT ≤ i.toNat →
      exec (.flgBlkorg i) s = .next (s.takeFault .operandRange 0x61)) ∧
    (CNT = 0 → exec .flgCurnext s = .next (s.takeFault .configError 0x63)) ∧
    (0 < CNT → s.cur.toNat + 1 = CNT →
      exec .flgCurnext s = .next { s with
        cur := 0, response := some ⟨0, BitVec.ofNat 48 (16777216 + s.cur.toNat), []⟩ }) ∧
    (0 < CNT → s.cur.toNat + 1 ≠ CNT →
      exec .flgCurnext s = .next { s with
        cur := s.cur + 1, response := some ⟨0, BitVec.ofNat 48 s.cur.toNat, []⟩ }))

/-- R118: the block side from the observed width and the reference geometry, both divisions floors. -/
def Obligations.RescaleDerivesTheBlockSide : Prop :=
  EncodesBare 0x64 .flgRescale ∧
  ∀ s : State, s.fault = none → s.cfg.WellFormed →
    let b := s.geomW.toNat / (s.cfg.wRef / s.cfg.bRef)
    (b = 0 → exec .flgRescale s = .next (s.takeFault .configError 0x64)) ∧
    (b ≠ 0 → b ≤ 4095 ∧ exec .flgRescale s = .next { s with
      geomB := BitVec.ofNat 12 b, cur := 0, frameValid := false,
      response := some ⟨0, BitVec.ofNat 48 b, []⟩ })

/-- R113: every block of a legal geometry lies inside the frame, blocks do not overlap, origins fit in 12 bits. -/
def Obligations.BlocksTileTheFrame : Prop :=
  ∀ (s : State) (i : Nat), i < s.cnt →
    let B := s.geomB.toNat
    i % s.cols ≤ s.cols - 1 ∧ i / s.cols ≤ s.rows - 1 ∧
    (s.origin i).1 = i % s.cols * B ∧ (s.origin i).2 = i / s.cols * B ∧
    (s.origin i).1 + B ≤ s.cols * B ∧ s.cols * B ≤ s.geomW.toNat ∧
    (s.origin i).2 + B ≤ s.rows * B ∧ s.rows * B ≤ s.geomH.toNat ∧
    (s.origin i).1 < 4096 ∧ (s.origin i).2 < 4096 ∧
    (∀ x y, (x, y) ∈ s.blockPixels i ↔
      (s.origin i).1 ≤ x ∧ x < (s.origin i).1 + B ∧ (s.origin i).2 ≤ y ∧ y < (s.origin i).2 + B) ∧
    (∀ q ∈ s.blockPixels i, q.1 < s.geomW.toNat ∧ q.2 < s.geomH.toNat) ∧
    (∀ j, j < s.cnt → j ≠ i → ∀ q ∈ s.blockPixels i, q ∉ s.blockPixels j)

/-! ### The digit converter and the packer -/

/-- R212, R213, R214 with R210: bytes to digits. -/
def Obligations.DigitConverterCommands : Prop :=
  Encodes 0x80 8 .dscLoad ∧ EncodesBare 0x81 .dscNext ∧ Encodes 0x82 8 .dscExpand ∧
  ∀ s : State, s.fault = none →
    (∀ b : Byte, s.dscPh = 0 →
      exec (.dscLoad b) s = .next { s with dscByte := b, dscPh := 3, response := some ⟨0, 0, []⟩ }) ∧
    (∀ b : Byte, s.dscPh ≠ 0 → exec (.dscLoad b) s = .next (s.takeFault .sequenceError 0x80)) ∧
    (s.dscPh = 0 → exec .dscNext s = .next (s.takeFault .sequenceError 0x81)) ∧
    (s.dscPh ≠ 0 →
      exec .dscNext s = .next { s with
        dscPh := s.dscPh - 1,
        response := some ⟨0, BitVec.ofNat 48
          (8 * (s.dscPh.toNat - 1) + s.dscByte.toNat / 8 ^ (s.dscPh.toNat - 1) % 8), []⟩ }) ∧
    (∀ b : Byte, exec (.dscExpand b) s = .next { s with
      response := some ⟨0, BitVec.ofNat 48 (64 * (b.toNat / 64) + 8 * (b.toNat / 8 % 8) + b.toNat % 8), []⟩ } ∧
      64 * (b.toNat / 64) + 8 * (b.toNat / 8 % 8) + b.toNat % 8 = b.toNat)

/-- R210, R211: the three digits of a byte, their join, and the digit stream. -/
def Obligations.JoiningDigitsGivesTheByteBack : Prop :=
  (∀ b : Byte, (digitsOf b).1.toNat = b.toNat / 64 ∧ (digitsOf b).2.1.toNat = b.toNat / 8 % 8 ∧
    (digitsOf b).2.2.toNat = b.toNat % 8 ∧ (digitsOf b).1.toNat ≤ 3 ∧
    joinDigits (digitsOf b).1 (digitsOf b).2.1 (digitsOf b).2.2 = b) ∧
  (∀ d0 d1 d2 : Digit, (joinDigits d0 d1 d2).toNat = (64 * d0.toNat + 8 * d1.toNat + d2.toNat) % 256) ∧
  (∀ (b : Byte) (bytes : List Byte), digitStream (b :: bytes) =
    (digitsOf b).1 :: (digitsOf b).2.1 :: (digitsOf b).2.2 :: digitStream bytes) ∧ digitStream [] = []

/-- R220, R222, R223: the packer's commands but `SSP.PUSH`. -/
def Obligations.PackerCommands : Prop :=
  EncodesBare 0x70 .sspStart ∧ Encodes 0x72 8 .sspCwrd ∧ EncodesBare 0x73 .sspCwpop ∧
  ∀ s : State, s.fault = none →
    exec .sspStart s = .next { s with
      dacc := 0, dcnt := 0, cwcnt := 0, cflag := false, cwidx := 0, response := some ⟨0, 0, []⟩ } ∧
    (∀ j : Byte, j.toNat < s.cwcnt.toNat →
      exec (.sspCwrd j) s = .next { s with response := some ⟨0, (s.cwbuf.getD j.toNat 0).setWidth 48, []⟩ }) ∧
    (∀ j : Byte, s.cwcnt.toNat ≤ j.toNat → exec (.sspCwrd j) s = .next (s.takeFault .operandRange 0x72)) ∧
    (s.cwcnt.toNat = s.cfg.N →
      exec .sspCwpop s = .next { s with
        cwcnt := 0, cflag := false, cwidx := s.cwidx + 1,
        response := some ⟨0, (if s.cflag then 1 else 0), []⟩ }) ∧
    (s.cwcnt.toNat ≠ s.cfg.N → exec .sspCwpop s = .next (s.takeFault .sequenceError 0x73)) ∧
    (Inv s → s.cwcnt.toNat = s.cfg.N → s.dcnt = 0)

/-- R221: one digit, or the indeterminate marker, into the packer; and the commands that can clear `CFLAG`, where
`DEC.BLOCK` clears it as `SSP.CWPOP` does (R251). -/
def Obligations.PushTakesOneDigit : Prop :=
  Encodes 0x71 4 (fun a => .sspPush (a.extractLsb' 3 1) (a.extractLsb' 0 3)) ∧
  (∀ (i : Instr) (s t : State), exec i s = .next t → s.cflag = true → t.cflag = false →
    i ∈ [Instr.sspCwpop, .sspStart, .decStart, .decBlock, .sysReset]) ∧
  ∀ (s : State) (indet : BitVec 1) (d : BitVec 3), s.fault = none →
    let d' : Nat := if indet = 1 then 0 else d.toNat
    let flag : Bool := s.cflag || decide (indet = 1)
    let v : Nat := 8 * s.dacc.toNat + d'
    (s.cwcnt.toNat = s.cfg.N → exec (.sspPush indet d) s = .next (s.takeFault .sequenceError 0x71)) ∧
    (s.cwcnt.toNat ≠ s.cfg.N → s.dcnt.toNat < 2 →
      exec (.sspPush indet d) s = .next { s with
        cflag := flag, dacc := BitVec.ofNat 6 v, dcnt := s.dcnt + 1,
        response := some ⟨0, BitVec.ofNat 48 (if flag then 1024 else 0), []⟩ }) ∧
    (s.cwcnt.toNat ≠ s.cfg.N → 2 ≤ s.dcnt.toNat →
      exec (.sspPush indet d) s = .next { s with
        cflag := flag, cwbuf := s.cwbuf.set s.cwcnt.toNat (BitVec.ofNat 8 v), cwcnt := s.cwcnt + 1,
        dacc := 0, dcnt := 0,
        response := some ⟨0, BitVec.ofNat 48 ((if flag then 1024 else 0) +
          (if s.cwcnt.toNat + 1 = s.cfg.N then 512 else 0) + 256 + v % 256), []⟩ })

/-- R224 for one codeword, from which it follows for any number of them: an empty packer that is given the digits of
`N` bytes holds these bytes with no corruption flag, and `SSP.CWPOP` leaves it empty again. -/
def Obligations.PackingInvertsTheExpansion : Prop :=
  ∀ (s : State) (w : List Byte), Inv s → s.fault = none → s.dcnt = 0 → s.cwcnt = 0 → s.cflag = false →
    w.length = s.cfg.N →
    ∃ t u, session ((digitStream w).map (.sspPush 0)) s = some (t, []) ∧
      t.cwbuf = w ∧ t.cwcnt.toNat = s.cfg.N ∧ t.cflag = false ∧
      exec .sspCwpop t = .next u ∧ u.dcnt = 0 ∧ u.cwcnt = 0 ∧ u.cflag = false ∧ u.cwidx = s.cwidx + 1 ∧
      u.fault = none

/-! ### The encode datapath -/

/-- R241: `ENC.START` clears the encoder registers and writes every byte of the addressable range, and no other, with
the blank value. -/
def Obligations.EncodeStartBlanksTheFrame : Prop :=
  EncodesBare 0x90 .encStart ∧
  (∀ s : State, s.fault = none → s.cnt = 0 → exec .encStart s = .next (s.takeFault .configError 0x90)) ∧
  (∀ s : State, s.fault = none → 0 < s.cnt →
    ∃ t, exec .encStart s = .next t ∧
      t = { s with
        par := List.replicate s.cfg.P 0, rseCnt := 0, dscPh := 0, dscByte := 0, cur := 0, frame := t.frame,
        response := some ⟨0, 0, []⟩ } ∧
      ∀ a, t.readByte a = if a < 3 * s.geomW.toNat * s.geomH.toNat then 0 else s.readByte a)

/-- R244 with R243: `ENC.BYTE` in every state that admits it: the registers it leaves, how many frames it emits, each a
whole raster, and that no byte beyond the addressable range changes; and its faults in the order of R294. The cursor is
inside the grid (R24), which the invariant says. -/
def Obligations.EncodeByteAdvancesTheSession : Prop :=
  Encodes 0x91 8 .encByte ∧
  (∀ (s : State) (b : Byte), s.fault = none →
    (s.cnt = 0 → exec (.encByte b) s = .next (s.takeFault .configError 0x91)) ∧
    (0 < s.cnt → s.dscPh ≠ 0 ∨ s.rseCnt.toNat = s.cfg.K →
      exec (.encByte b) s = .next (s.takeFault .sequenceError 0x91))) ∧
  (∀ (s : State) (b : Byte), Inv s → s.fault = none → 0 < s.cnt → s.dscPh = 0 → s.rseCnt.toNat ≠ s.cfg.K →
    let last : Prop := s.rseCnt.toNat + 1 = s.cfg.K
    let digits : Nat := if s.rseCnt.toNat + 1 = s.cfg.K then 3 * (1 + s.cfg.P) else 3
    ∃ (t : State) (images : List (List Byte)), exec (.encByte b) s = .next t ∧
      t = { s with
        par := t.par, rseCnt := t.rseCnt, dscByte := t.dscByte, cur := t.cur, frame := t.frame,
        response := some ⟨0, BitVec.ofNat 48 images.length, images.map .emitFrame⟩ } ∧
      (¬ last → t.par = lfsrStep s.cfg.P s.par b ∧ t.rseCnt = s.rseCnt + 1 ∧ t.dscByte = b) ∧
      (last → t.par = List.replicate s.cfg.P 0 ∧ t.rseCnt = 0 ∧
        t.dscByte = (lfsrStep s.cfg.P s.par b).getLastD b) ∧
      t.cur.toNat = (s.cur.toNat + digits) % s.cnt ∧
      images.length = (s.cur.toNat + digits) / s.cnt ∧
      (∀ image ∈ images, image.length = 3 * s.geomW.toNat * s.geomH.toNat) ∧
      ∀ a, 3 * s.geomW.toNat * s.geomH.toNat ≤ a → t.readByte a = s.readByte a)

/-- R243, R244: a byte that completes neither a chunk nor a frame paints the blocks `CUR`, `CUR + 1`, `CUR + 2` with
the colours of its digits, at the addresses of their pixels, and leaves every other byte of memory as it was. -/
def Obligations.EncodeBytePaintsThreeBlocks : Prop :=
  ∀ (s : State) (b : Byte), Inv s → s.fault = none → s.dscPh = 0 → s.rseCnt.toNat + 1 < s.cfg.K →
    s.cur.toNat + 3 < s.cnt →
    ∃ t, exec (.encByte b) s = .next t ∧
      t = { s with
        par := lfsrStep s.cfg.P s.par b, rseCnt := s.rseCnt + 1, dscByte := b, cur := s.cur + 3, frame := t.frame,
        response := some ⟨0, 0, []⟩ } ∧
      (∀ a k, InBlock s s.cur.toNat a k → t.readByte a = (colorRom (digitsOf b).1).channel k) ∧
      (∀ a k, InBlock s (s.cur.toNat + 1) a k → t.readByte a = (colorRom (digitsOf b).2.1).channel k) ∧
      (∀ a k, InBlock s (s.cur.toNat + 2) a k → t.readByte a = (colorRom (digitsOf b).2.2).channel k) ∧
      (∀ a, (∀ j k, j < 3 → ¬ InBlock s (s.cur.toNat + j) a k) → t.readByte a = s.readByte a)

/-- R245: `ENC.END` in every state that admits it: the open chunk is padded and sent, the last frame flushed, the
registers and the addressable range left as a session begins with them; and its faults in the order of R294. That
`DSC_BYTE` is 0 is the prose of R245 and R314, which the pseudocode leaves out (log 6). -/
def Obligations.EncodeEndFlushesTheSession : Prop :=
  EncodesBare 0x92 .encEnd ∧
  (∀ s : State, s.fault = none →
    (s.cnt = 0 → exec .encEnd s = .next (s.takeFault .configError 0x92)) ∧
    (0 < s.cnt → s.dscPh ≠ 0 ∨ s.rseCnt.toNat = s.cfg.K →
      exec .encEnd s = .next (s.takeFault .sequenceError 0x92))) ∧
  (∀ s : State, Inv s → s.fault = none → 0 < s.cnt → s.dscPh = 0 → s.rseCnt.toNat ≠ s.cfg.K →
    let digits : Nat := if s.rseCnt = 0 then 0 else 3 * (s.cfg.K - s.rseCnt.toNat + s.cfg.P)
    ∃ (t : State) (images : List (List Byte)), exec .encEnd s = .next t ∧
      t = { s with
        par := List.replicate s.cfg.P 0, rseCnt := 0, dscByte := 0, cur := 0, frame := t.frame,
        response := some ⟨0, BitVec.ofNat 48 images.length, images.map .emitFrame⟩ } ∧
      images.length = (s.cur.toNat + digits + (s.cnt - 1)) / s.cnt ∧
      (∀ image ∈ images, image.length = 3 * s.geomW.toNat * s.geomH.toNat) ∧
      (s.cur.toNat + digits = 0 → t.frame = s.frame) ∧
      (s.cur.toNat + digits ≠ 0 →
        ∀ a, t.readByte a = if a < 3 * s.geomW.toNat * s.geomH.toNat then 0 else s.readByte a))

/-- R246, R247: what an encode session computes, from every state that is not faulted and has a legal geometry: the
frames in which block `j` of frame `f` has the colour of digit `f*CNT + j` of the encoded payload and every other byte
is 0, and how many they are. -/
def Obligations.EncodeSessionEmitsThePaintedFrames : Prop :=
  ∀ (s : State) (p : List Byte), Inv s → s.fault = none → 0 < s.cnt →
    (digitStream (eccEncode s.cfg p)).length = 3 * (s.cfg.N * ((p.length + (s.cfg.K - 1)) / s.cfg.K)) ∧
    ∃ t, session (.encStart :: p.map .encByte ++ [.encEnd]) s =
        some (t, s.sessionFrames (digitStream (eccEncode s.cfg p))) ∧
      (s.sessionFrames (digitStream (eccEncode s.cfg p))).length =
        (3 * (s.cfg.N * ((p.length + (s.cfg.K - 1)) / s.cfg.K)) + (s.cnt - 1)) / s.cnt

/-! ### The decode datapath -/

/-- R249, R250, R252: the commands that begin a decode session, take a loaded frame and end the source. -/
def Obligations.DecodeSessionCommands : Prop :=
  EncodesBare 0xA0 .decStart ∧ EncodesBare 0xA1 .decFrame ∧ EncodesBare 0xA3 .decEos ∧
  (∀ s : State, s.fault = none →
    (s.cnt = 0 → exec .decStart s = .next (s.takeFault .configError 0xA0)) ∧
    (0 < s.cnt → s.lenSet = false → exec .decStart s = .next (s.takeFault .sequenceError 0xA0)) ∧
    (0 < s.cnt → s.lenSet = true → exec .decStart s = .next { s with
      dacc := 0, dcnt := 0, cwcnt := 0, cflag := false, cwidx := 0, rsdCnt := 0, rsdOk := false, outCnt := 0,
      cur := 0, frameValid := false, response := some ⟨0, 0, []⟩ }) ∧
    (s.cnt = 0 → exec .decFrame s = .next (s.takeFault .configError 0xA1)) ∧
    (0 < s.cnt → s.frameValid = true → exec .decFrame s = .next (s.takeFault .sequenceError 0xA1)) ∧
    (0 < s.cnt → s.frameValid = false →
      exec .decFrame s = .next { s with frameValid := true, response := some ⟨0, 0, []⟩ }) ∧
    (s.outCnt.toNat < s.tgtLen.toNat → exec .decEos s = .next (s.takeFault .sourceExhaustedEarly s.outCnt)) ∧
    (s.tgtLen.toNat ≤ s.outCnt.toNat → exec .decEos s = .next { s with response := some ⟨0, 0, []⟩ })) ∧
  (∀ (i : Instr) (s t : State), i ∈ [Instr.decStart, .decFrame, .decBlock, .decEos] →
    (s.frameValid = false → s.cur = 0) → exec i s = .next t → t.frameValid = false → t.cur = 0)

/-- R251, R294: the checks of `DEC.BLOCK` in order, with the DONE no-op before the SequenceError; and a block that
completes no codeword: its digit goes into the packer, the cursor moves on. The cursor is inside the grid (R24), which
the invariant says. -/
def Obligations.DecodeBlockPacksOneDigit : Prop :=
  EncodesBare 0xA2 .decBlock ∧
  (∀ s : State, s.fault = none →
    (s.cnt = 0 → exec .decBlock s = .next (s.takeFault .configError 0xA2)) ∧
    (0 < s.cnt → s.tgtLen.toNat ≤ s.outCnt.toNat →
      exec .decBlock s = .next { s with response := some ⟨0, 2, []⟩ }) ∧
    (0 < s.cnt → s.outCnt.toNat < s.tgtLen.toNat → s.frameValid = false ∨ s.cwcnt.toNat = s.cfg.N →
      exec .decBlock s = .next (s.takeFault .sequenceError 0xA2))) ∧
  (∀ (s : State) (d : Digit) (indet : Bool), Inv s → s.fault = none → 0 < s.cnt →
    s.outCnt.toNat < s.tgtLen.toNat → s.frameValid = true → s.cwcnt.toNat ≠ s.cfg.N → BlockReads s d indet →
    let wrap : Bool := decide (s.cur.toNat + 1 = s.cnt)
    let cur' : BitVec 24 := if s.cur.toNat + 1 = s.cnt then 0 else s.cur + 1
    let v : Nat := 8 * s.dacc.toNat + d.toNat
    let rsp : Word48 := BitVec.ofNat 48 ((if indet then 4 else 0) + (if wrap then 1 else 0))
    (s.dcnt.toNat < 2 →
      exec .decBlock s = .next { s with
        cflag := s.cflag || indet, dacc := BitVec.ofNat 6 v, dcnt := s.dcnt + 1, cur := cur', frameValid := !wrap,
        response := some ⟨0, rsp, []⟩ }) ∧
    (s.dcnt.toNat = 2 → s.cwcnt.toNat + 1 ≠ s.cfg.N →
      exec .decBlock s = .next { s with
        cflag := s.cflag || indet, dacc := 0, dcnt := 0,
        cwbuf := s.cwbuf.set s.cwcnt.toNat (BitVec.ofNat 8 v), cwcnt := s.cwcnt + 1, cur := cur',
        frameValid := !wrap, response := some ⟨0, rsp, []⟩ }))

/-- R251 with R184, R189 and R253: a block that completes a codeword: the codeword is passed on or corrected, its payload
is output up to the target length, and the packer is emptied; or it is uncorrectable and nothing of it is output. -/
def Obligations.DecodeBlockOutputsACodeword : Prop :=
  ∀ (s : State) (d : Digit) (indet : Bool), Inv s → s.fault = none → 0 < s.cnt →
    s.outCnt.toNat < s.tgtLen.toNat → s.frameValid = true → BlockReads s d indet →
    s.dcnt.toNat = 2 → s.cwcnt.toNat + 1 = s.cfg.N →
    let wrap : Bool := decide (s.cur.toNat + 1 = s.cnt)
    let cur' : BitVec 24 := if s.cur.toNat + 1 = s.cnt then 0 else s.cur + 1
    let word : List Byte := s.cwbuf.set s.cwcnt.toNat (BitVec.ofNat 8 (8 * s.dacc.toNat + d.toNat))
    let flag : Bool := s.cflag || indet
    let n : Nat := min s.cfg.K (s.tgtLen.toNat - s.outCnt.toNat)
    (∀ c, (flag = false ∧ c = word) ∨ (flag = true ∧ rsCorrect s.cfg.P word = some c) →
      exec .decBlock s = .next { s with
        dacc := 0, dcnt := 0, cwbuf := word, cwcnt := 0, cflag := false, cwidx := s.cwidx + 1,
        rsdBuf := c, rsdCnt := BitVec.ofNat 8 s.cfg.N, rsdOk := true, outCnt := s.outCnt + BitVec.ofNat 48 n,
        cur := cur', frameValid := !wrap,
        response := some ⟨0, BitVec.ofNat 48 (256 * n + (if indet then 4 else 0) +
          (if s.tgtLen.toNat ≤ s.outCnt.toNat + n then 2 else 0) + (if wrap then 1 else 0)),
          (c.take n).map .outByte⟩ }) ∧
    (flag = true → rsCorrect s.cfg.P word = none →
      exec .decBlock s = .next (s.takeFault .uncorrectableCodeword s.cwidx))

/-- R255: THE ROUND TRIP. The frames that the canonical encode of a payload emits, given unchanged and in order to the
canonical decode on a block with the same parameters and geometry, give the payload back, no command faulting and no
block indeterminate, with strategy 0, or with strategy 1 under its preconditions. -/
def Obligations.DecodeInvertsEncode : Prop :=
  ∀ (s v : State) (w h b : BitVec 12) (strat : BitVec 1) (p : List Byte),
    Inv s → s.fault = none → Inv v → v.fault = none → v.cfg = s.cfg →
    0 < w.toNat / b.toNat * (h.toNat / b.toNat) → p.length < 2 ^ 48 →
    strat = 0 ∨ (3 ≤ b.toNat ∧ 1 ≤ s.cfg.tLo ∧ s.cfg.tHi ≤ 254) →
    ∃ (t : State) (frames : List (List Byte)) (u x : State),
      session ([.csrwGeomW w, .csrwGeomH h, .csrwGeomB b, .encStart] ++ p.map .encByte ++ [.encEnd]) s =
        some (t, frames.map .emitFrame) ∧
      session [.csrwGeomW w, .csrwGeomH h, .csrwGeomB b, .csrwClsCtrl strat,
        .csrwTgtLen (BitVec.ofNat 48 p.length), .decStart] v = some (u, []) ∧
      decodeFrames frames u = some (x, p.map .outByte) ∧ x.fault = none ∧ x.done = true

/-- R314 (encode) with R245: at the end of an encode session the whole state, `FRAME` included, is that after
`ENC.START`, but for the response; so a second session may follow without `ENC.START`. That `DSC_BYTE` is among the
registers meant is the model's reading (log 6). -/
def Obligations.EncodeEndRestoresTheStartState : Prop :=
  ∀ (s : State) (p q : List Byte), Inv s → s.fault = none → 0 < s.cnt →
    ∃ (u t v : State) (frames : List Event),
      exec .encStart s = .next u ∧
      session (p.map .encByte ++ [.encEnd]) u = some (t, frames) ∧
      t = { u with response := t.response } ∧
      session (q.map .encByte ++ [.encEnd]) t = some (v, s.sessionFrames (digitStream (eccEncode s.cfg q))) ∧
      v = { u with response := v.response }

end
end

