-- ==== Sys2Proof/Laws/Config.lean ====
section
/-!
SUPPORT. The parameter record of the reset state: it meets R9 whatever the free numbers are, and it is any record that
does (assumption log 1).
-/

namespace Sys2Proof

/-- `N = K + P` in the order of R9. -/
theorem Params.N_eq (p : Params) : p.N = p.K + p.P := Nat.add_comm _ _

/-- Whatever the free numbers are, the record meets R9. -/
theorem ofFree_wellFormed (k halfP lo hi w b : Nat) : (Params.ofFree k halfP lo hi w b).WellFormed := by
  have hk : k % 255 < 255 := Nat.mod_lt _ (by omega)
  have hP : halfP % ((254 - k % 255) / 2 + 1) < (254 - k % 255) / 2 + 1 := Nat.mod_lt _ (by omega)
  have hlo : lo % (hi % 256 + 1) < hi % 256 + 1 := Nat.mod_lt _ (by omega)
  have hhi : hi % 256 < 256 := Nat.mod_lt _ (by omega)
  have hw : w % 4095 < 4095 := Nat.mod_lt _ (by omega)
  have hb : b % (w % 4095 + 1) < w % 4095 + 1 := Nat.mod_lt _ (by omega)
  simp only [Params.WellFormed, Params.ofFree]
  omega

/-- Every record that meets R9 comes from some free numbers, so nothing is decided about the one at reset. -/
theorem ofFree_onto (p : Params) (h : p.WellFormed) :
    Params.ofFree (p.K - 1) (p.P / 2) p.tLo p.tHi (p.wRef - 1) (p.bRef - 1) = p := by
  obtain ⟨K, P, tLo, tHi, wRef, bRef⟩ := p
  simp only [Params.WellFormed] at h
  simp only [Params.ofFree, Params.mk.injEq]
  have e1 : (K - 1) % 255 = K - 1 := Nat.mod_eq_of_lt (by omega)
  have e2 : P / 2 % ((254 - (K - 1)) / 2 + 1) = P / 2 := Nat.mod_eq_of_lt (by omega)
  have e3 : tHi % 256 = tHi := Nat.mod_eq_of_lt (by omega)
  have e4 : tLo % (tHi + 1) = tLo := Nat.mod_eq_of_lt (by omega)
  have e5 : (wRef - 1) % 4095 = wRef - 1 := Nat.mod_eq_of_lt (by omega)
  have e6 : (bRef - 1) % (wRef - 1 + 1) = bRef - 1 := Nat.mod_eq_of_lt (by omega)
  rw [e1, e2, e3, e4, e5, e6]
  omega

/-- The parameters at reset meet R9. -/
theorem build_wellFormed : Config.build.WellFormed := ofFree_wellFormed ..

end Sys2Proof
end

