-- ==== Sys2Proof/Laws/Decode.lean ====
section
/-!
SUPPORT. The fields of a command word and the two operand forms of the decoder (spec/30_encoding.md R81, R83).
-/

namespace Sys2Proof

theorem toNat_commandWord (op : BitVec 8) (arg : Word48) :
    (commandWord op arg).toNat = op.toNat * 2 ^ 56 + arg.toNat := by
  have h2 := arg.isLt
  simp only [commandWord, BitVec.toNat_append, BitVec.toNat_ofNat, Nat.zero_mod, Nat.zero_shiftLeft, Nat.zero_or]
  rw [← Nat.shiftLeft_add_eq_or_of_lt (by omega), Nat.shiftLeft_eq]

@[simp] theorem opOf_commandWord (op : BitVec 8) (arg : Word48) : opOf (commandWord op arg) = op := by
  apply BitVec.eq_of_toNat_eq
  have h1 := op.isLt
  have h2 := arg.isLt
  simp only [opOf, BitVec.extractLsb'_toNat, toNat_commandWord, Nat.shiftRight_eq_div_pow]
  omega

@[simp] theorem rsvdOf_commandWord (op : BitVec 8) (arg : Word48) : rsvdOf (commandWord op arg) = 0 := by
  apply BitVec.eq_of_toNat_eq
  have h2 := arg.isLt
  simp only [rsvdOf, BitVec.extractLsb'_toNat, toNat_commandWord, Nat.shiftRight_eq_div_pow, BitVec.ofNat_eq_ofNat,
    BitVec.toNat_ofNat]
  omega

@[simp] theorem argOf_commandWord (op : BitVec 8) (arg : Word48) : argOf (commandWord op arg) = arg := by
  apply BitVec.eq_of_toNat_eq
  have h2 := arg.isLt
  simp only [argOf, BitVec.extractLsb'_toNat, toNat_commandWord, Nat.shiftRight_eq_div_pow]
  omega

/-- A word whose `rsvd` is 0 is the command word of its fields. -/
theorem commandWord_fields (w : Word) (h : rsvdOf w = 0) : commandWord (opOf w) (argOf w) = w := by
  apply BitVec.eq_of_toNat_eq
  have hw := w.isLt
  have h' := congrArg BitVec.toNat h
  simp only [rsvdOf, BitVec.extractLsb'_toNat, Nat.shiftRight_eq_div_pow, BitVec.ofNat_eq_ofNat,
    BitVec.toNat_ofNat] at h'
  simp only [toNat_commandWord, opOf, argOf, BitVec.extractLsb'_toNat, Nat.shiftRight_eq_div_pow]
  omega

/-- Decoding the command word of an `op` byte and an `arg` field is the opcode map on them. -/
@[simp] theorem decode_commandWord (op : BitVec 8) (arg : Word48) :
    decode (commandWord op arg) = decodeOp op arg := by
  simp [decode]

/-- What a command without an operand decodes to. -/
theorem noOperand_eq_ok {arg : Word48} {i j : Instr} : noOperand arg i = .ok j ↔ arg = 0 ∧ i = j := by
  unfold noOperand
  split <;> simp_all

/-- What a command with an operand decodes to. -/
theorem withOperand_eq_ok {n : Nat} {arg : Word48} {mk : BitVec n → Instr} {j : Instr} :
    withOperand n arg mk = .ok j ↔ arg.toNat < 2 ^ n ∧ mk (arg.setWidth n) = j := by
  unfold withOperand
  split <;> simp_all

/-- An operand put into `arg` and taken out again. -/
theorem withOperand_setWidth {n : Nat} (hn : n ≤ 48) (v : BitVec n) (mk : BitVec n → Instr) :
    withOperand n (v.setWidth 48) mk = .ok (mk v) := by
  have hv := v.isLt
  have hle : 2 ^ n ≤ 2 ^ 48 := Nat.pow_le_pow_right (by omega) hn
  have h1 : (v.setWidth 48).toNat = v.toNat := by
    rw [BitVec.toNat_setWidth]
    exact Nat.mod_eq_of_lt (by omega)
  refine withOperand_eq_ok.mpr ⟨by rw [h1]; exact hv, ?_⟩
  congr 1
  apply BitVec.eq_of_toNat_eq
  rw [BitVec.toNat_setWidth, h1, Nat.mod_eq_of_lt hv]

end Sys2Proof
end

