-- ==== Sys2Proof/Laws/Memory.lean ====
section
/-!
SUPPORT. The laws of the frame memory: what a read gives after each memory operation, and that each keeps the canonical
form (spec/20_memory.md R62, R65, R70).
-/

namespace Sys2Proof.Machine

@[simp] theorem lookup_nil (a : Nat) : Memory.lookup [] a = none := rfl

theorem lookup_cons (b : Nat) (v : Byte) (m : Memory) (a : Nat) :
    Memory.lookup ((b, v) :: m) a = if a = b then some v else Memory.lookup m a := rfl

/-- Below the bound from which a memory rises, nothing is listed. -/
theorem lookup_of_lt {lo a : Nat} {m : Memory} (h : Memory.risingFrom lo m = true) (ha : a < lo) :
    Memory.lookup m a = none := by
  induction m generalizing lo with
  | nil => rfl
  | cons c m ih =>
    obtain ⟨b, v⟩ := c
    simp only [Memory.risingFrom, Bool.and_eq_true, decide_eq_true_eq] at h
    rw [lookup_cons, if_neg (by omega)]
    exact ih h.2 (by omega)

/-- READ AFTER WRITE: the byte written, and every other address as before. -/
theorem lookup_write (m : Memory) (a : Nat) (v : Byte) (x : Nat) :
    Memory.lookup (Memory.write m a v) x = if x = a then some v else Memory.lookup m x := by
  induction m with
  | nil => simp [Memory.write, lookup_cons]
  | cons c m ih =>
    obtain ⟨b, w⟩ := c
    simp only [Memory.write]
    split
    · simp [lookup_cons]
    · split
      · subst_vars
        simp only [lookup_cons]
        split <;> rfl
      · simp only [lookup_cons, ih]
        split <;> split <;> first | rfl | omega

theorem risingFrom_mono {lo lo' : Nat} {m : Memory} (h : Memory.risingFrom lo m = true) (hl : lo' ≤ lo) :
    Memory.risingFrom lo' m = true := by
  cases m with
  | nil => rfl
  | cons c m =>
    simp only [Memory.risingFrom, Bool.and_eq_true, decide_eq_true_eq] at h ⊢
    exact ⟨⟨by omega, h.1.2⟩, h.2⟩

theorem risingFrom_write {lo a : Nat} {m : Memory} (h : Memory.risingFrom lo m = true) (hl : lo ≤ a)
    (ha : a < Config.frameCapacity) (v : Byte) : Memory.risingFrom lo (Memory.write m a v) = true := by
  induction m generalizing lo with
  | nil => simp [Memory.write, Memory.risingFrom, hl, ha]
  | cons c m ih =>
    obtain ⟨b, w⟩ := c
    simp only [Memory.risingFrom, Bool.and_eq_true, decide_eq_true_eq] at h
    simp only [Memory.write]
    split
    · simp only [Memory.risingFrom, Bool.and_eq_true, decide_eq_true_eq]
      exact ⟨⟨hl, ha⟩, ⟨by omega, h.1.2⟩, h.2⟩
    · split
      · subst_vars
        simp only [Memory.risingFrom, Bool.and_eq_true, decide_eq_true_eq]
        exact ⟨⟨hl, ha⟩, h.2⟩
      · simp only [Memory.risingFrom, Bool.and_eq_true, decide_eq_true_eq]
        exact ⟨h.1, ih h.2 (by omega)⟩

@[simp] theorem wf_nil : Memory.wf [] = true := rfl

/-- A write inside the physical array keeps the canonical form. -/
theorem wf_write {m : Memory} (h : Memory.wf m = true) {a : Nat} (ha : a < Config.frameCapacity) (v : Byte) :
    Memory.wf (Memory.write m a v) = true := risingFrom_write h (Nat.zero_le a) ha v

/-- A pixel write reads back as the three channels at rising addresses. -/
theorem lookup_setPixel (m : Memory) (a : Nat) (c : Color) (x : Nat) :
    Memory.lookup (Memory.setPixel m a c) x =
      if x = a then some c.r else if x = a + 1 then some c.g else if x = a + 2 then some c.b
      else Memory.lookup m x := by
  simp only [Memory.setPixel, lookup_write]
  split <;> split <;> first | rfl | omega | (split <;> first | rfl | omega)

/-- A pixel write inside the physical array keeps the canonical form. -/
theorem wf_setPixel {m : Memory} (h : Memory.wf m = true) {a : Nat} (ha : a + 2 < Config.frameCapacity) (c : Color) :
    Memory.wf (Memory.setPixel m a c) = true :=
  wf_write (wf_write (wf_write h (by omega) c.r) (by omega) c.g) ha c.b

theorem lookup_append (m m' : Memory) (x : Nat) :
    Memory.lookup (m ++ m') x = (Memory.lookup m x).or (Memory.lookup m' x) := by
  induction m with
  | nil => simp
  | cons c m ih =>
    obtain ⟨b, v⟩ := c
    simp only [List.cons_append, lookup_cons, ih]
    split <;> simp

theorem lookup_cellsFrom (a : Nat) (bytes : List Byte) (x : Nat) :
    Memory.lookup (cellsFrom a bytes) x = if x < a then none else bytes[x - a]? := by
  induction bytes generalizing a with
  | nil => simp [cellsFrom]
  | cons v vs ih =>
    rw [cellsFrom, lookup_cons, ih]
    by_cases h1 : x = a
    · subst h1
      simp
    · by_cases h2 : x < a
      · rw [if_neg h1, if_pos (by omega), if_pos h2]
      · rw [if_neg h1, if_neg (by omega), if_neg h2, show x - a = (x - (a + 1)) + 1 by omega,
          List.getElem?_cons_succ]

theorem lookup_filter_ge (n : Nat) (m : Memory) (x : Nat) :
    Memory.lookup (m.filter fun c => decide (n ≤ c.1)) x = if n ≤ x then Memory.lookup m x else none := by
  induction m with
  | nil => simp
  | cons c m ih =>
    obtain ⟨b, v⟩ := c
    by_cases hb : n ≤ b
    · rw [List.filter_cons_of_pos (by simpa using hb), lookup_cons, lookup_cons, ih]
      split <;> split <;> first | rfl | omega
    · rw [List.filter_cons_of_neg (by simpa using hb), lookup_cons, ih]
      by_cases hx : n ≤ x
      · rw [if_pos hx, if_pos hx, if_neg (by omega)]
      · rw [if_neg hx, if_neg hx]

/-- READ AFTER A FRAME WRITE: the frame's bytes from address 0 on, and every address beyond them as before. -/
theorem lookup_writeFrame (m : Memory) (bytes : List Byte) (x : Nat) :
    Memory.lookup (Memory.writeFrame m bytes) x =
      if x < bytes.length then bytes[x]? else Memory.lookup m x := by
  rw [Memory.writeFrame, lookup_append, lookup_cellsFrom, if_neg (Nat.not_lt_zero x), lookup_filter_ge, Nat.sub_zero]
  by_cases h : x < bytes.length
  · rw [if_pos h, List.getElem?_eq_getElem h, Option.some_or]
  · rw [if_neg h, if_pos (by omega), List.getElem?_eq_none (by omega), Option.none_or]

theorem risingFrom_cellsFrom_append {a : Nat} {bytes : List Byte} {m : Memory}
    (hm : Memory.risingFrom (a + bytes.length) m = true) (hc : a + bytes.length ≤ Config.frameCapacity) :
    Memory.risingFrom a (cellsFrom a bytes ++ m) = true := by
  induction bytes generalizing a with
  | nil => simpa [cellsFrom] using hm
  | cons v vs ih =>
    simp only [List.length_cons] at hm hc
    simp only [cellsFrom, List.cons_append, Memory.risingFrom, Bool.and_eq_true, decide_eq_true_eq]
    exact ⟨⟨Nat.le_refl a, by omega⟩, ih (by rwa [show a + 1 + vs.length = a + (vs.length + 1) by omega]) (by omega)⟩

theorem risingFrom_filter_ge {lo n : Nat} {m : Memory} (h : Memory.risingFrom lo m = true) :
    Memory.risingFrom n (m.filter fun c => decide (n ≤ c.1)) = true := by
  induction m generalizing lo n with
  | nil => rfl
  | cons c m ih =>
    obtain ⟨b, v⟩ := c
    simp only [Memory.risingFrom, Bool.and_eq_true, decide_eq_true_eq] at h
    by_cases hb : n ≤ b
    · rw [List.filter_cons_of_pos (by simpa using hb)]
      simp only [Memory.risingFrom, Bool.and_eq_true, decide_eq_true_eq]
      refine ⟨⟨hb, h.1.2⟩, ?_⟩
      have hall : ∀ {lo : Nat} {m : Memory}, n ≤ lo → Memory.risingFrom lo m = true →
          (m.filter fun c => decide (n ≤ c.1)) = m := by
        intro lo m
        induction m generalizing lo with
        | nil => intros; rfl
        | cons c m ih' =>
          obtain ⟨b', v'⟩ := c
          intro hlo h'
          simp only [Memory.risingFrom, Bool.and_eq_true, decide_eq_true_eq] at h'
          rw [List.filter_cons_of_pos (by simp only [decide_eq_true_eq]; omega), ih' (by omega) h'.2]
      rw [hall (by omega) h.2]
      exact h.2
    · rw [List.filter_cons_of_neg (by simpa using hb)]
      exact ih h.2

/-- A frame write inside the physical array keeps the canonical form. -/
theorem wf_writeFrame {m : Memory} (h : Memory.wf m = true) {bytes : List Byte}
    (hc : bytes.length ≤ Config.frameCapacity) : Memory.wf (Memory.writeFrame m bytes) = true :=
  risingFrom_cellsFrom_append (by rw [Nat.zero_add]; exact risingFrom_filter_ge h) (by omega)

/-- The addressable range lies inside the physical array (R50). -/
theorem frameBytes_le_capacity (s : State) : s.frameBytes ≤ Config.frameCapacity := by
  have hw : s.geomW.toNat ≤ 4095 := by have := s.geomW.isLt; omega
  have hh : s.geomH.toNat ≤ 4095 := by have := s.geomH.isLt; omega
  calc s.frameBytes ≤ 3 * 4095 * 4095 := Nat.mul_le_mul (Nat.mul_le_mul_left 3 hw) hh
    _ = Config.frameCapacity := rfl

/-- A read gives the byte listed, and the free byte of U1 where none is. -/
theorem readByte_eq (s : State) (a : Nat) :
    s.readByte a = (Memory.lookup s.frame a).getD (Config.powerOnByte s.frameEpoch a) := rfl

/-- After blanking, the addressable range reads 0 and everything else as before (R241). -/
theorem readByte_blankFrame (s : State) (a : Nat) :
    s.blankFrame.readByte a = if a < s.frameBytes then 0 else s.readByte a := by
  simp only [readByte_eq, State.blankFrame, lookup_writeFrame, List.length_replicate]
  split
  · rename_i h
    rw [List.getElem?_replicate, if_pos h]
    rfl
  · rfl

/-- Blanking keeps the canonical form. -/
theorem wf_blankFrame {s : State} (h : Memory.wf s.frame = true) : Memory.wf s.blankFrame.frame = true :=
  wf_writeFrame h (by rw [List.length_replicate]; exact frameBytes_le_capacity s)

end Sys2Proof.Machine
end

