-- ==== Sys2Proof/Laws/State.lean ====
section
/-!
SUPPORT. One lemma per field per named update of the state, each true by definition, so that no later proof unfolds an
update of the record.
-/

namespace Sys2Proof.Machine

variable (s : State)

/-! ### The state after reset -/

@[simp] theorem init_cfg (c : Params) : (State.init c).cfg = c := rfl
@[simp] theorem init_cur (c : Params) : (State.init c).cur = 0 := rfl
@[simp] theorem init_dscByte (c : Params) : (State.init c).dscByte = 0 := rfl
@[simp] theorem init_dscPh (c : Params) : (State.init c).dscPh = 0 := rfl
@[simp] theorem init_dacc (c : Params) : (State.init c).dacc = 0 := rfl
@[simp] theorem init_dcnt (c : Params) : (State.init c).dcnt = 0 := rfl
@[simp] theorem init_cwbuf (c : Params) : (State.init c).cwbuf = List.replicate c.N 0 := rfl
@[simp] theorem init_cwcnt (c : Params) : (State.init c).cwcnt = 0 := rfl
@[simp] theorem init_cflag (c : Params) : (State.init c).cflag = false := rfl
@[simp] theorem init_cwidx (c : Params) : (State.init c).cwidx = 0 := rfl
@[simp] theorem init_par (c : Params) : (State.init c).par = List.replicate c.P 0 := rfl
@[simp] theorem init_rseCnt (c : Params) : (State.init c).rseCnt = 0 := rfl
@[simp] theorem init_rsdBuf (c : Params) : (State.init c).rsdBuf = List.replicate c.N 0 := rfl
@[simp] theorem init_rsdCnt (c : Params) : (State.init c).rsdCnt = 0 := rfl
@[simp] theorem init_rsdOk (c : Params) : (State.init c).rsdOk = false := rfl
@[simp] theorem init_outCnt (c : Params) : (State.init c).outCnt = 0 := rfl
@[simp] theorem init_frameValid (c : Params) : (State.init c).frameValid = false := rfl
@[simp] theorem init_lenSet (c : Params) : (State.init c).lenSet = false := rfl
@[simp] theorem init_fault (c : Params) : (State.init c).fault = none := rfl
@[simp] theorem init_finfo (c : Params) : (State.init c).finfo = 0 := rfl
@[simp] theorem init_geomW (c : Params) : (State.init c).geomW = 0 := rfl
@[simp] theorem init_geomH (c : Params) : (State.init c).geomH = 0 := rfl
@[simp] theorem init_geomB (c : Params) : (State.init c).geomB = 0 := rfl
@[simp] theorem init_clsCtrl (c : Params) : (State.init c).clsCtrl = .nearestCorner := rfl
@[simp] theorem init_tgtLen (c : Params) : (State.init c).tgtLen = 0 := rfl
@[simp] theorem init_frame (c : Params) : (State.init c).frame = [] := rfl
@[simp] theorem init_frameEpoch (c : Params) : (State.init c).frameEpoch = 0 := rfl
@[simp] theorem init_inbox (c : Params) : (State.init c).inbox = [] := rfl
@[simp] theorem init_response (c : Params) : (State.init c).response = none := rfl

/-! ### A completed command -/

@[simp] theorem answer_cfg (rsp : Word48) (events : List Event) : (s.answer rsp events).cfg = s.cfg := rfl
@[simp] theorem answer_cur (rsp : Word48) (events : List Event) : (s.answer rsp events).cur = s.cur := rfl
@[simp] theorem answer_dscByte (rsp : Word48) (events : List Event) : (s.answer rsp events).dscByte = s.dscByte := rfl
@[simp] theorem answer_dscPh (rsp : Word48) (events : List Event) : (s.answer rsp events).dscPh = s.dscPh := rfl
@[simp] theorem answer_dacc (rsp : Word48) (events : List Event) : (s.answer rsp events).dacc = s.dacc := rfl
@[simp] theorem answer_dcnt (rsp : Word48) (events : List Event) : (s.answer rsp events).dcnt = s.dcnt := rfl
@[simp] theorem answer_cwbuf (rsp : Word48) (events : List Event) : (s.answer rsp events).cwbuf = s.cwbuf := rfl
@[simp] theorem answer_cwcnt (rsp : Word48) (events : List Event) : (s.answer rsp events).cwcnt = s.cwcnt := rfl
@[simp] theorem answer_cflag (rsp : Word48) (events : List Event) : (s.answer rsp events).cflag = s.cflag := rfl
@[simp] theorem answer_cwidx (rsp : Word48) (events : List Event) : (s.answer rsp events).cwidx = s.cwidx := rfl
@[simp] theorem answer_par (rsp : Word48) (events : List Event) : (s.answer rsp events).par = s.par := rfl
@[simp] theorem answer_rseCnt (rsp : Word48) (events : List Event) : (s.answer rsp events).rseCnt = s.rseCnt := rfl
@[simp] theorem answer_rsdBuf (rsp : Word48) (events : List Event) : (s.answer rsp events).rsdBuf = s.rsdBuf := rfl
@[simp] theorem answer_rsdCnt (rsp : Word48) (events : List Event) : (s.answer rsp events).rsdCnt = s.rsdCnt := rfl
@[simp] theorem answer_rsdOk (rsp : Word48) (events : List Event) : (s.answer rsp events).rsdOk = s.rsdOk := rfl
@[simp] theorem answer_outCnt (rsp : Word48) (events : List Event) : (s.answer rsp events).outCnt = s.outCnt := rfl
@[simp] theorem answer_frameValid (rsp : Word48) (events : List Event) : (s.answer rsp events).frameValid = s.frameValid := rfl
@[simp] theorem answer_lenSet (rsp : Word48) (events : List Event) : (s.answer rsp events).lenSet = s.lenSet := rfl
@[simp] theorem answer_fault (rsp : Word48) (events : List Event) : (s.answer rsp events).fault = s.fault := rfl
@[simp] theorem answer_finfo (rsp : Word48) (events : List Event) : (s.answer rsp events).finfo = s.finfo := rfl
@[simp] theorem answer_geomW (rsp : Word48) (events : List Event) : (s.answer rsp events).geomW = s.geomW := rfl
@[simp] theorem answer_geomH (rsp : Word48) (events : List Event) : (s.answer rsp events).geomH = s.geomH := rfl
@[simp] theorem answer_geomB (rsp : Word48) (events : List Event) : (s.answer rsp events).geomB = s.geomB := rfl
@[simp] theorem answer_clsCtrl (rsp : Word48) (events : List Event) : (s.answer rsp events).clsCtrl = s.clsCtrl := rfl
@[simp] theorem answer_tgtLen (rsp : Word48) (events : List Event) : (s.answer rsp events).tgtLen = s.tgtLen := rfl
@[simp] theorem answer_frame (rsp : Word48) (events : List Event) : (s.answer rsp events).frame = s.frame := rfl
@[simp] theorem answer_frameEpoch (rsp : Word48) (events : List Event) : (s.answer rsp events).frameEpoch = s.frameEpoch := rfl
@[simp] theorem answer_inbox (rsp : Word48) (events : List Event) : (s.answer rsp events).inbox = s.inbox := rfl
@[simp] theorem answer_response (rsp : Word48) (events : List Event) : (s.answer rsp events).response = some ⟨0, rsp, events⟩ := rfl
@[simp] theorem answer_frameBytes (rsp : Word48) (events : List Event) : (s.answer rsp events).frameBytes = s.frameBytes := rfl
@[simp] theorem answer_cols (rsp : Word48) (events : List Event) : (s.answer rsp events).cols = s.cols := rfl
@[simp] theorem answer_rows (rsp : Word48) (events : List Event) : (s.answer rsp events).rows = s.rows := rfl
@[simp] theorem answer_cnt (rsp : Word48) (events : List Event) : (s.answer rsp events).cnt = s.cnt := rfl
@[simp] theorem answer_done (rsp : Word48) (events : List Event) : (s.answer rsp events).done = s.done := rfl
@[simp] theorem answer_cwFull (rsp : Word48) (events : List Event) : (s.answer rsp events).cwFull = s.cwFull := rfl
@[simp] theorem answer_lastBlock (rsp : Word48) (events : List Event) : (s.answer rsp events).lastBlock = s.lastBlock := rfl

/-! ### A fault entry -/

@[simp] theorem takeFault_cfg (k : FaultKind) (info : Word48) : (s.takeFault k info).cfg = s.cfg := rfl
@[simp] theorem takeFault_cur (k : FaultKind) (info : Word48) : (s.takeFault k info).cur = s.cur := rfl
@[simp] theorem takeFault_dscByte (k : FaultKind) (info : Word48) : (s.takeFault k info).dscByte = s.dscByte := rfl
@[simp] theorem takeFault_dscPh (k : FaultKind) (info : Word48) : (s.takeFault k info).dscPh = s.dscPh := rfl
@[simp] theorem takeFault_dacc (k : FaultKind) (info : Word48) : (s.takeFault k info).dacc = s.dacc := rfl
@[simp] theorem takeFault_dcnt (k : FaultKind) (info : Word48) : (s.takeFault k info).dcnt = s.dcnt := rfl
@[simp] theorem takeFault_cwbuf (k : FaultKind) (info : Word48) : (s.takeFault k info).cwbuf = s.cwbuf := rfl
@[simp] theorem takeFault_cwcnt (k : FaultKind) (info : Word48) : (s.takeFault k info).cwcnt = s.cwcnt := rfl
@[simp] theorem takeFault_cflag (k : FaultKind) (info : Word48) : (s.takeFault k info).cflag = s.cflag := rfl
@[simp] theorem takeFault_cwidx (k : FaultKind) (info : Word48) : (s.takeFault k info).cwidx = s.cwidx := rfl
@[simp] theorem takeFault_par (k : FaultKind) (info : Word48) : (s.takeFault k info).par = s.par := rfl
@[simp] theorem takeFault_rseCnt (k : FaultKind) (info : Word48) : (s.takeFault k info).rseCnt = s.rseCnt := rfl
@[simp] theorem takeFault_rsdBuf (k : FaultKind) (info : Word48) : (s.takeFault k info).rsdBuf = s.rsdBuf := rfl
@[simp] theorem takeFault_rsdCnt (k : FaultKind) (info : Word48) : (s.takeFault k info).rsdCnt = s.rsdCnt := rfl
@[simp] theorem takeFault_rsdOk (k : FaultKind) (info : Word48) : (s.takeFault k info).rsdOk = s.rsdOk := rfl
@[simp] theorem takeFault_outCnt (k : FaultKind) (info : Word48) : (s.takeFault k info).outCnt = s.outCnt := rfl
@[simp] theorem takeFault_frameValid (k : FaultKind) (info : Word48) : (s.takeFault k info).frameValid = s.frameValid := rfl
@[simp] theorem takeFault_lenSet (k : FaultKind) (info : Word48) : (s.takeFault k info).lenSet = s.lenSet := rfl
@[simp] theorem takeFault_fault (k : FaultKind) (info : Word48) : (s.takeFault k info).fault = some k := rfl
@[simp] theorem takeFault_finfo (k : FaultKind) (info : Word48) : (s.takeFault k info).finfo = info := rfl
@[simp] theorem takeFault_geomW (k : FaultKind) (info : Word48) : (s.takeFault k info).geomW = s.geomW := rfl
@[simp] theorem takeFault_geomH (k : FaultKind) (info : Word48) : (s.takeFault k info).geomH = s.geomH := rfl
@[simp] theorem takeFault_geomB (k : FaultKind) (info : Word48) : (s.takeFault k info).geomB = s.geomB := rfl
@[simp] theorem takeFault_clsCtrl (k : FaultKind) (info : Word48) : (s.takeFault k info).clsCtrl = s.clsCtrl := rfl
@[simp] theorem takeFault_tgtLen (k : FaultKind) (info : Word48) : (s.takeFault k info).tgtLen = s.tgtLen := rfl
@[simp] theorem takeFault_frame (k : FaultKind) (info : Word48) : (s.takeFault k info).frame = s.frame := rfl
@[simp] theorem takeFault_frameEpoch (k : FaultKind) (info : Word48) : (s.takeFault k info).frameEpoch = s.frameEpoch := rfl
@[simp] theorem takeFault_inbox (k : FaultKind) (info : Word48) : (s.takeFault k info).inbox = s.inbox := rfl
@[simp] theorem takeFault_response (k : FaultKind) (info : Word48) : (s.takeFault k info).response = some ⟨faultCode k, 0, []⟩ := rfl
@[simp] theorem takeFault_frameBytes (k : FaultKind) (info : Word48) : (s.takeFault k info).frameBytes = s.frameBytes := rfl
@[simp] theorem takeFault_cols (k : FaultKind) (info : Word48) : (s.takeFault k info).cols = s.cols := rfl
@[simp] theorem takeFault_rows (k : FaultKind) (info : Word48) : (s.takeFault k info).rows = s.rows := rfl
@[simp] theorem takeFault_cnt (k : FaultKind) (info : Word48) : (s.takeFault k info).cnt = s.cnt := rfl
@[simp] theorem takeFault_done (k : FaultKind) (info : Word48) : (s.takeFault k info).done = s.done := rfl
@[simp] theorem takeFault_cwFull (k : FaultKind) (info : Word48) : (s.takeFault k info).cwFull = s.cwFull := rfl
@[simp] theorem takeFault_lastBlock (k : FaultKind) (info : Word48) : (s.takeFault k info).lastBlock = s.lastBlock := rfl

/-! ### A refusal -/

@[simp] theorem refuse_cfg : s.refuse.cfg = s.cfg := rfl
@[simp] theorem refuse_cur : s.refuse.cur = s.cur := rfl
@[simp] theorem refuse_dscByte : s.refuse.dscByte = s.dscByte := rfl
@[simp] theorem refuse_dscPh : s.refuse.dscPh = s.dscPh := rfl
@[simp] theorem refuse_dacc : s.refuse.dacc = s.dacc := rfl
@[simp] theorem refuse_dcnt : s.refuse.dcnt = s.dcnt := rfl
@[simp] theorem refuse_cwbuf : s.refuse.cwbuf = s.cwbuf := rfl
@[simp] theorem refuse_cwcnt : s.refuse.cwcnt = s.cwcnt := rfl
@[simp] theorem refuse_cflag : s.refuse.cflag = s.cflag := rfl
@[simp] theorem refuse_cwidx : s.refuse.cwidx = s.cwidx := rfl
@[simp] theorem refuse_par : s.refuse.par = s.par := rfl
@[simp] theorem refuse_rseCnt : s.refuse.rseCnt = s.rseCnt := rfl
@[simp] theorem refuse_rsdBuf : s.refuse.rsdBuf = s.rsdBuf := rfl
@[simp] theorem refuse_rsdCnt : s.refuse.rsdCnt = s.rsdCnt := rfl
@[simp] theorem refuse_rsdOk : s.refuse.rsdOk = s.rsdOk := rfl
@[simp] theorem refuse_outCnt : s.refuse.outCnt = s.outCnt := rfl
@[simp] theorem refuse_frameValid : s.refuse.frameValid = s.frameValid := rfl
@[simp] theorem refuse_lenSet : s.refuse.lenSet = s.lenSet := rfl
@[simp] theorem refuse_fault : s.refuse.fault = s.fault := rfl
@[simp] theorem refuse_finfo : s.refuse.finfo = s.finfo := rfl
@[simp] theorem refuse_geomW : s.refuse.geomW = s.geomW := rfl
@[simp] theorem refuse_geomH : s.refuse.geomH = s.geomH := rfl
@[simp] theorem refuse_geomB : s.refuse.geomB = s.geomB := rfl
@[simp] theorem refuse_clsCtrl : s.refuse.clsCtrl = s.clsCtrl := rfl
@[simp] theorem refuse_tgtLen : s.refuse.tgtLen = s.tgtLen := rfl
@[simp] theorem refuse_frame : s.refuse.frame = s.frame := rfl
@[simp] theorem refuse_frameEpoch : s.refuse.frameEpoch = s.frameEpoch := rfl
@[simp] theorem refuse_inbox : s.refuse.inbox = s.inbox := rfl
@[simp] theorem refuse_response : s.refuse.response = some ⟨0xF, 0, []⟩ := rfl
@[simp] theorem refuse_frameBytes : s.refuse.frameBytes = s.frameBytes := rfl
@[simp] theorem refuse_cols : s.refuse.cols = s.cols := rfl
@[simp] theorem refuse_rows : s.refuse.rows = s.rows := rfl
@[simp] theorem refuse_cnt : s.refuse.cnt = s.cnt := rfl
@[simp] theorem refuse_done : s.refuse.done = s.done := rfl
@[simp] theorem refuse_cwFull : s.refuse.cwFull = s.cwFull := rfl
@[simp] theorem refuse_lastBlock : s.refuse.lastBlock = s.lastBlock := rfl

/-! ### A geometry write -/

@[simp] theorem restartGrid_cfg : s.restartGrid.cfg = s.cfg := rfl
@[simp] theorem restartGrid_cur : s.restartGrid.cur = 0 := rfl
@[simp] theorem restartGrid_dscByte : s.restartGrid.dscByte = s.dscByte := rfl
@[simp] theorem restartGrid_dscPh : s.restartGrid.dscPh = s.dscPh := rfl
@[simp] theorem restartGrid_dacc : s.restartGrid.dacc = s.dacc := rfl
@[simp] theorem restartGrid_dcnt : s.restartGrid.dcnt = s.dcnt := rfl
@[simp] theorem restartGrid_cwbuf : s.restartGrid.cwbuf = s.cwbuf := rfl
@[simp] theorem restartGrid_cwcnt : s.restartGrid.cwcnt = s.cwcnt := rfl
@[simp] theorem restartGrid_cflag : s.restartGrid.cflag = s.cflag := rfl
@[simp] theorem restartGrid_cwidx : s.restartGrid.cwidx = s.cwidx := rfl
@[simp] theorem restartGrid_par : s.restartGrid.par = s.par := rfl
@[simp] theorem restartGrid_rseCnt : s.restartGrid.rseCnt = s.rseCnt := rfl
@[simp] theorem restartGrid_rsdBuf : s.restartGrid.rsdBuf = s.rsdBuf := rfl
@[simp] theorem restartGrid_rsdCnt : s.restartGrid.rsdCnt = s.rsdCnt := rfl
@[simp] theorem restartGrid_rsdOk : s.restartGrid.rsdOk = s.rsdOk := rfl
@[simp] theorem restartGrid_outCnt : s.restartGrid.outCnt = s.outCnt := rfl
@[simp] theorem restartGrid_frameValid : s.restartGrid.frameValid = false := rfl
@[simp] theorem restartGrid_lenSet : s.restartGrid.lenSet = s.lenSet := rfl
@[simp] theorem restartGrid_fault : s.restartGrid.fault = s.fault := rfl
@[simp] theorem restartGrid_finfo : s.restartGrid.finfo = s.finfo := rfl
@[simp] theorem restartGrid_geomW : s.restartGrid.geomW = s.geomW := rfl
@[simp] theorem restartGrid_geomH : s.restartGrid.geomH = s.geomH := rfl
@[simp] theorem restartGrid_geomB : s.restartGrid.geomB = s.geomB := rfl
@[simp] theorem restartGrid_clsCtrl : s.restartGrid.clsCtrl = s.clsCtrl := rfl
@[simp] theorem restartGrid_tgtLen : s.restartGrid.tgtLen = s.tgtLen := rfl
@[simp] theorem restartGrid_frame : s.restartGrid.frame = s.frame := rfl
@[simp] theorem restartGrid_frameEpoch : s.restartGrid.frameEpoch = s.frameEpoch := rfl
@[simp] theorem restartGrid_inbox : s.restartGrid.inbox = s.inbox := rfl
@[simp] theorem restartGrid_response : s.restartGrid.response = s.response := rfl
@[simp] theorem restartGrid_frameBytes : s.restartGrid.frameBytes = s.frameBytes := rfl
@[simp] theorem restartGrid_cols : s.restartGrid.cols = s.cols := rfl
@[simp] theorem restartGrid_rows : s.restartGrid.rows = s.rows := rfl
@[simp] theorem restartGrid_cnt : s.restartGrid.cnt = s.cnt := rfl
@[simp] theorem restartGrid_done : s.restartGrid.done = s.done := rfl
@[simp] theorem restartGrid_cwFull : s.restartGrid.cwFull = s.cwFull := rfl

/-! ### The cursor's advance -/

@[simp] theorem advance_cfg : s.advance.cfg = s.cfg := rfl
@[simp] theorem advance_cur : s.advance.cur = if s.lastBlock then 0 else s.cur + 1 := rfl
@[simp] theorem advance_dscByte : s.advance.dscByte = s.dscByte := rfl
@[simp] theorem advance_dscPh : s.advance.dscPh = s.dscPh := rfl
@[simp] theorem advance_dacc : s.advance.dacc = s.dacc := rfl
@[simp] theorem advance_dcnt : s.advance.dcnt = s.dcnt := rfl
@[simp] theorem advance_cwbuf : s.advance.cwbuf = s.cwbuf := rfl
@[simp] theorem advance_cwcnt : s.advance.cwcnt = s.cwcnt := rfl
@[simp] theorem advance_cflag : s.advance.cflag = s.cflag := rfl
@[simp] theorem advance_cwidx : s.advance.cwidx = s.cwidx := rfl
@[simp] theorem advance_par : s.advance.par = s.par := rfl
@[simp] theorem advance_rseCnt : s.advance.rseCnt = s.rseCnt := rfl
@[simp] theorem advance_rsdBuf : s.advance.rsdBuf = s.rsdBuf := rfl
@[simp] theorem advance_rsdCnt : s.advance.rsdCnt = s.rsdCnt := rfl
@[simp] theorem advance_rsdOk : s.advance.rsdOk = s.rsdOk := rfl
@[simp] theorem advance_outCnt : s.advance.outCnt = s.outCnt := rfl
@[simp] theorem advance_frameValid : s.advance.frameValid = s.frameValid := rfl
@[simp] theorem advance_lenSet : s.advance.lenSet = s.lenSet := rfl
@[simp] theorem advance_fault : s.advance.fault = s.fault := rfl
@[simp] theorem advance_finfo : s.advance.finfo = s.finfo := rfl
@[simp] theorem advance_geomW : s.advance.geomW = s.geomW := rfl
@[simp] theorem advance_geomH : s.advance.geomH = s.geomH := rfl
@[simp] theorem advance_geomB : s.advance.geomB = s.geomB := rfl
@[simp] theorem advance_clsCtrl : s.advance.clsCtrl = s.clsCtrl := rfl
@[simp] theorem advance_tgtLen : s.advance.tgtLen = s.tgtLen := rfl
@[simp] theorem advance_frame : s.advance.frame = s.frame := rfl
@[simp] theorem advance_frameEpoch : s.advance.frameEpoch = s.frameEpoch := rfl
@[simp] theorem advance_inbox : s.advance.inbox = s.inbox := rfl
@[simp] theorem advance_response : s.advance.response = s.response := rfl
@[simp] theorem advance_frameBytes : s.advance.frameBytes = s.frameBytes := rfl
@[simp] theorem advance_cols : s.advance.cols = s.cols := rfl
@[simp] theorem advance_rows : s.advance.rows = s.rows := rfl
@[simp] theorem advance_cnt : s.advance.cnt = s.cnt := rfl
@[simp] theorem advance_done : s.advance.done = s.done := rfl
@[simp] theorem advance_cwFull : s.advance.cwFull = s.cwFull := rfl

/-! ### `RSE.START` -/

@[simp] theorem rseClear_cfg : s.rseClear.cfg = s.cfg := rfl
@[simp] theorem rseClear_cur : s.rseClear.cur = s.cur := rfl
@[simp] theorem rseClear_dscByte : s.rseClear.dscByte = s.dscByte := rfl
@[simp] theorem rseClear_dscPh : s.rseClear.dscPh = s.dscPh := rfl
@[simp] theorem rseClear_dacc : s.rseClear.dacc = s.dacc := rfl
@[simp] theorem rseClear_dcnt : s.rseClear.dcnt = s.dcnt := rfl
@[simp] theorem rseClear_cwbuf : s.rseClear.cwbuf = s.cwbuf := rfl
@[simp] theorem rseClear_cwcnt : s.rseClear.cwcnt = s.cwcnt := rfl
@[simp] theorem rseClear_cflag : s.rseClear.cflag = s.cflag := rfl
@[simp] theorem rseClear_cwidx : s.rseClear.cwidx = s.cwidx := rfl
@[simp] theorem rseClear_par : s.rseClear.par = List.replicate s.cfg.P 0 := rfl
@[simp] theorem rseClear_rseCnt : s.rseClear.rseCnt = 0 := rfl
@[simp] theorem rseClear_rsdBuf : s.rseClear.rsdBuf = s.rsdBuf := rfl
@[simp] theorem rseClear_rsdCnt : s.rseClear.rsdCnt = s.rsdCnt := rfl
@[simp] theorem rseClear_rsdOk : s.rseClear.rsdOk = s.rsdOk := rfl
@[simp] theorem rseClear_outCnt : s.rseClear.outCnt = s.outCnt := rfl
@[simp] theorem rseClear_frameValid : s.rseClear.frameValid = s.frameValid := rfl
@[simp] theorem rseClear_lenSet : s.rseClear.lenSet = s.lenSet := rfl
@[simp] theorem rseClear_fault : s.rseClear.fault = s.fault := rfl
@[simp] theorem rseClear_finfo : s.rseClear.finfo = s.finfo := rfl
@[simp] theorem rseClear_geomW : s.rseClear.geomW = s.geomW := rfl
@[simp] theorem rseClear_geomH : s.rseClear.geomH = s.geomH := rfl
@[simp] theorem rseClear_geomB : s.rseClear.geomB = s.geomB := rfl
@[simp] theorem rseClear_clsCtrl : s.rseClear.clsCtrl = s.clsCtrl := rfl
@[simp] theorem rseClear_tgtLen : s.rseClear.tgtLen = s.tgtLen := rfl
@[simp] theorem rseClear_frame : s.rseClear.frame = s.frame := rfl
@[simp] theorem rseClear_frameEpoch : s.rseClear.frameEpoch = s.frameEpoch := rfl
@[simp] theorem rseClear_inbox : s.rseClear.inbox = s.inbox := rfl
@[simp] theorem rseClear_response : s.rseClear.response = s.response := rfl
@[simp] theorem rseClear_frameBytes : s.rseClear.frameBytes = s.frameBytes := rfl
@[simp] theorem rseClear_cols : s.rseClear.cols = s.cols := rfl
@[simp] theorem rseClear_rows : s.rseClear.rows = s.rows := rfl
@[simp] theorem rseClear_cnt : s.rseClear.cnt = s.cnt := rfl
@[simp] theorem rseClear_done : s.rseClear.done = s.done := rfl
@[simp] theorem rseClear_cwFull : s.rseClear.cwFull = s.cwFull := rfl
@[simp] theorem rseClear_lastBlock : s.rseClear.lastBlock = s.lastBlock := rfl

/-! ### A message byte -/

@[simp] theorem rseTake_cfg (m : Byte) : (s.rseTake m).cfg = s.cfg := rfl
@[simp] theorem rseTake_cur (m : Byte) : (s.rseTake m).cur = s.cur := rfl
@[simp] theorem rseTake_dscByte (m : Byte) : (s.rseTake m).dscByte = s.dscByte := rfl
@[simp] theorem rseTake_dscPh (m : Byte) : (s.rseTake m).dscPh = s.dscPh := rfl
@[simp] theorem rseTake_dacc (m : Byte) : (s.rseTake m).dacc = s.dacc := rfl
@[simp] theorem rseTake_dcnt (m : Byte) : (s.rseTake m).dcnt = s.dcnt := rfl
@[simp] theorem rseTake_cwbuf (m : Byte) : (s.rseTake m).cwbuf = s.cwbuf := rfl
@[simp] theorem rseTake_cwcnt (m : Byte) : (s.rseTake m).cwcnt = s.cwcnt := rfl
@[simp] theorem rseTake_cflag (m : Byte) : (s.rseTake m).cflag = s.cflag := rfl
@[simp] theorem rseTake_cwidx (m : Byte) : (s.rseTake m).cwidx = s.cwidx := rfl
@[simp] theorem rseTake_par (m : Byte) : (s.rseTake m).par = lfsrStep s.cfg.P s.par m := rfl
@[simp] theorem rseTake_rseCnt (m : Byte) : (s.rseTake m).rseCnt = s.rseCnt + 1 := rfl
@[simp] theorem rseTake_rsdBuf (m : Byte) : (s.rseTake m).rsdBuf = s.rsdBuf := rfl
@[simp] theorem rseTake_rsdCnt (m : Byte) : (s.rseTake m).rsdCnt = s.rsdCnt := rfl
@[simp] theorem rseTake_rsdOk (m : Byte) : (s.rseTake m).rsdOk = s.rsdOk := rfl
@[simp] theorem rseTake_outCnt (m : Byte) : (s.rseTake m).outCnt = s.outCnt := rfl
@[simp] theorem rseTake_frameValid (m : Byte) : (s.rseTake m).frameValid = s.frameValid := rfl
@[simp] theorem rseTake_lenSet (m : Byte) : (s.rseTake m).lenSet = s.lenSet := rfl
@[simp] theorem rseTake_fault (m : Byte) : (s.rseTake m).fault = s.fault := rfl
@[simp] theorem rseTake_finfo (m : Byte) : (s.rseTake m).finfo = s.finfo := rfl
@[simp] theorem rseTake_geomW (m : Byte) : (s.rseTake m).geomW = s.geomW := rfl
@[simp] theorem rseTake_geomH (m : Byte) : (s.rseTake m).geomH = s.geomH := rfl
@[simp] theorem rseTake_geomB (m : Byte) : (s.rseTake m).geomB = s.geomB := rfl
@[simp] theorem rseTake_clsCtrl (m : Byte) : (s.rseTake m).clsCtrl = s.clsCtrl := rfl
@[simp] theorem rseTake_tgtLen (m : Byte) : (s.rseTake m).tgtLen = s.tgtLen := rfl
@[simp] theorem rseTake_frame (m : Byte) : (s.rseTake m).frame = s.frame := rfl
@[simp] theorem rseTake_frameEpoch (m : Byte) : (s.rseTake m).frameEpoch = s.frameEpoch := rfl
@[simp] theorem rseTake_inbox (m : Byte) : (s.rseTake m).inbox = s.inbox := rfl
@[simp] theorem rseTake_response (m : Byte) : (s.rseTake m).response = s.response := rfl
@[simp] theorem rseTake_frameBytes (m : Byte) : (s.rseTake m).frameBytes = s.frameBytes := rfl
@[simp] theorem rseTake_cols (m : Byte) : (s.rseTake m).cols = s.cols := rfl
@[simp] theorem rseTake_rows (m : Byte) : (s.rseTake m).rows = s.rows := rfl
@[simp] theorem rseTake_cnt (m : Byte) : (s.rseTake m).cnt = s.cnt := rfl
@[simp] theorem rseTake_done (m : Byte) : (s.rseTake m).done = s.done := rfl
@[simp] theorem rseTake_cwFull (m : Byte) : (s.rseTake m).cwFull = s.cwFull := rfl
@[simp] theorem rseTake_lastBlock (m : Byte) : (s.rseTake m).lastBlock = s.lastBlock := rfl

/-! ### `SSP.START` -/

@[simp] theorem sspClear_cfg : s.sspClear.cfg = s.cfg := rfl
@[simp] theorem sspClear_cur : s.sspClear.cur = s.cur := rfl
@[simp] theorem sspClear_dscByte : s.sspClear.dscByte = s.dscByte := rfl
@[simp] theorem sspClear_dscPh : s.sspClear.dscPh = s.dscPh := rfl
@[simp] theorem sspClear_dacc : s.sspClear.dacc = 0 := rfl
@[simp] theorem sspClear_dcnt : s.sspClear.dcnt = 0 := rfl
@[simp] theorem sspClear_cwbuf : s.sspClear.cwbuf = s.cwbuf := rfl
@[simp] theorem sspClear_cwcnt : s.sspClear.cwcnt = 0 := rfl
@[simp] theorem sspClear_cflag : s.sspClear.cflag = false := rfl
@[simp] theorem sspClear_cwidx : s.sspClear.cwidx = 0 := rfl
@[simp] theorem sspClear_par : s.sspClear.par = s.par := rfl
@[simp] theorem sspClear_rseCnt : s.sspClear.rseCnt = s.rseCnt := rfl
@[simp] theorem sspClear_rsdBuf : s.sspClear.rsdBuf = s.rsdBuf := rfl
@[simp] theorem sspClear_rsdCnt : s.sspClear.rsdCnt = s.rsdCnt := rfl
@[simp] theorem sspClear_rsdOk : s.sspClear.rsdOk = s.rsdOk := rfl
@[simp] theorem sspClear_outCnt : s.sspClear.outCnt = s.outCnt := rfl
@[simp] theorem sspClear_frameValid : s.sspClear.frameValid = s.frameValid := rfl
@[simp] theorem sspClear_lenSet : s.sspClear.lenSet = s.lenSet := rfl
@[simp] theorem sspClear_fault : s.sspClear.fault = s.fault := rfl
@[simp] theorem sspClear_finfo : s.sspClear.finfo = s.finfo := rfl
@[simp] theorem sspClear_geomW : s.sspClear.geomW = s.geomW := rfl
@[simp] theorem sspClear_geomH : s.sspClear.geomH = s.geomH := rfl
@[simp] theorem sspClear_geomB : s.sspClear.geomB = s.geomB := rfl
@[simp] theorem sspClear_clsCtrl : s.sspClear.clsCtrl = s.clsCtrl := rfl
@[simp] theorem sspClear_tgtLen : s.sspClear.tgtLen = s.tgtLen := rfl
@[simp] theorem sspClear_frame : s.sspClear.frame = s.frame := rfl
@[simp] theorem sspClear_frameEpoch : s.sspClear.frameEpoch = s.frameEpoch := rfl
@[simp] theorem sspClear_inbox : s.sspClear.inbox = s.inbox := rfl
@[simp] theorem sspClear_response : s.sspClear.response = s.response := rfl
@[simp] theorem sspClear_frameBytes : s.sspClear.frameBytes = s.frameBytes := rfl
@[simp] theorem sspClear_cols : s.sspClear.cols = s.cols := rfl
@[simp] theorem sspClear_rows : s.sspClear.rows = s.rows := rfl
@[simp] theorem sspClear_cnt : s.sspClear.cnt = s.cnt := rfl
@[simp] theorem sspClear_done : s.sspClear.done = s.done := rfl
@[simp] theorem sspClear_lastBlock : s.sspClear.lastBlock = s.lastBlock := rfl

/-! ### `SSP.CWPOP` -/

@[simp] theorem sspPop_cfg : s.sspPop.cfg = s.cfg := rfl
@[simp] theorem sspPop_cur : s.sspPop.cur = s.cur := rfl
@[simp] theorem sspPop_dscByte : s.sspPop.dscByte = s.dscByte := rfl
@[simp] theorem sspPop_dscPh : s.sspPop.dscPh = s.dscPh := rfl
@[simp] theorem sspPop_dacc : s.sspPop.dacc = s.dacc := rfl
@[simp] theorem sspPop_dcnt : s.sspPop.dcnt = s.dcnt := rfl
@[simp] theorem sspPop_cwbuf : s.sspPop.cwbuf = s.cwbuf := rfl
@[simp] theorem sspPop_cwcnt : s.sspPop.cwcnt = 0 := rfl
@[simp] theorem sspPop_cflag : s.sspPop.cflag = false := rfl
@[simp] theorem sspPop_cwidx : s.sspPop.cwidx = s.cwidx + 1 := rfl
@[simp] theorem sspPop_par : s.sspPop.par = s.par := rfl
@[simp] theorem sspPop_rseCnt : s.sspPop.rseCnt = s.rseCnt := rfl
@[simp] theorem sspPop_rsdBuf : s.sspPop.rsdBuf = s.rsdBuf := rfl
@[simp] theorem sspPop_rsdCnt : s.sspPop.rsdCnt = s.rsdCnt := rfl
@[simp] theorem sspPop_rsdOk : s.sspPop.rsdOk = s.rsdOk := rfl
@[simp] theorem sspPop_outCnt : s.sspPop.outCnt = s.outCnt := rfl
@[simp] theorem sspPop_frameValid : s.sspPop.frameValid = s.frameValid := rfl
@[simp] theorem sspPop_lenSet : s.sspPop.lenSet = s.lenSet := rfl
@[simp] theorem sspPop_fault : s.sspPop.fault = s.fault := rfl
@[simp] theorem sspPop_finfo : s.sspPop.finfo = s.finfo := rfl
@[simp] theorem sspPop_geomW : s.sspPop.geomW = s.geomW := rfl
@[simp] theorem sspPop_geomH : s.sspPop.geomH = s.geomH := rfl
@[simp] theorem sspPop_geomB : s.sspPop.geomB = s.geomB := rfl
@[simp] theorem sspPop_clsCtrl : s.sspPop.clsCtrl = s.clsCtrl := rfl
@[simp] theorem sspPop_tgtLen : s.sspPop.tgtLen = s.tgtLen := rfl
@[simp] theorem sspPop_frame : s.sspPop.frame = s.frame := rfl
@[simp] theorem sspPop_frameEpoch : s.sspPop.frameEpoch = s.frameEpoch := rfl
@[simp] theorem sspPop_inbox : s.sspPop.inbox = s.inbox := rfl
@[simp] theorem sspPop_response : s.sspPop.response = s.response := rfl
@[simp] theorem sspPop_frameBytes : s.sspPop.frameBytes = s.frameBytes := rfl
@[simp] theorem sspPop_cols : s.sspPop.cols = s.cols := rfl
@[simp] theorem sspPop_rows : s.sspPop.rows = s.rows := rfl
@[simp] theorem sspPop_cnt : s.sspPop.cnt = s.cnt := rfl
@[simp] theorem sspPop_done : s.sspPop.done = s.done := rfl
@[simp] theorem sspPop_lastBlock : s.sspPop.lastBlock = s.lastBlock := rfl

/-! ### Blanking -/

@[simp] theorem blankFrame_cfg : s.blankFrame.cfg = s.cfg := rfl
@[simp] theorem blankFrame_cur : s.blankFrame.cur = s.cur := rfl
@[simp] theorem blankFrame_dscByte : s.blankFrame.dscByte = s.dscByte := rfl
@[simp] theorem blankFrame_dscPh : s.blankFrame.dscPh = s.dscPh := rfl
@[simp] theorem blankFrame_dacc : s.blankFrame.dacc = s.dacc := rfl
@[simp] theorem blankFrame_dcnt : s.blankFrame.dcnt = s.dcnt := rfl
@[simp] theorem blankFrame_cwbuf : s.blankFrame.cwbuf = s.cwbuf := rfl
@[simp] theorem blankFrame_cwcnt : s.blankFrame.cwcnt = s.cwcnt := rfl
@[simp] theorem blankFrame_cflag : s.blankFrame.cflag = s.cflag := rfl
@[simp] theorem blankFrame_cwidx : s.blankFrame.cwidx = s.cwidx := rfl
@[simp] theorem blankFrame_par : s.blankFrame.par = s.par := rfl
@[simp] theorem blankFrame_rseCnt : s.blankFrame.rseCnt = s.rseCnt := rfl
@[simp] theorem blankFrame_rsdBuf : s.blankFrame.rsdBuf = s.rsdBuf := rfl
@[simp] theorem blankFrame_rsdCnt : s.blankFrame.rsdCnt = s.rsdCnt := rfl
@[simp] theorem blankFrame_rsdOk : s.blankFrame.rsdOk = s.rsdOk := rfl
@[simp] theorem blankFrame_outCnt : s.blankFrame.outCnt = s.outCnt := rfl
@[simp] theorem blankFrame_frameValid : s.blankFrame.frameValid = s.frameValid := rfl
@[simp] theorem blankFrame_lenSet : s.blankFrame.lenSet = s.lenSet := rfl
@[simp] theorem blankFrame_fault : s.blankFrame.fault = s.fault := rfl
@[simp] theorem blankFrame_finfo : s.blankFrame.finfo = s.finfo := rfl
@[simp] theorem blankFrame_geomW : s.blankFrame.geomW = s.geomW := rfl
@[simp] theorem blankFrame_geomH : s.blankFrame.geomH = s.geomH := rfl
@[simp] theorem blankFrame_geomB : s.blankFrame.geomB = s.geomB := rfl
@[simp] theorem blankFrame_clsCtrl : s.blankFrame.clsCtrl = s.clsCtrl := rfl
@[simp] theorem blankFrame_tgtLen : s.blankFrame.tgtLen = s.tgtLen := rfl
@[simp] theorem blankFrame_frame : s.blankFrame.frame = Memory.writeFrame s.frame (List.replicate s.frameBytes Config.blank) := rfl
@[simp] theorem blankFrame_frameEpoch : s.blankFrame.frameEpoch = s.frameEpoch := rfl
@[simp] theorem blankFrame_inbox : s.blankFrame.inbox = s.inbox := rfl
@[simp] theorem blankFrame_response : s.blankFrame.response = s.response := rfl
@[simp] theorem blankFrame_frameBytes : s.blankFrame.frameBytes = s.frameBytes := rfl
@[simp] theorem blankFrame_cols : s.blankFrame.cols = s.cols := rfl
@[simp] theorem blankFrame_rows : s.blankFrame.rows = s.rows := rfl
@[simp] theorem blankFrame_cnt : s.blankFrame.cnt = s.cnt := rfl
@[simp] theorem blankFrame_done : s.blankFrame.done = s.done := rfl
@[simp] theorem blankFrame_cwFull : s.blankFrame.cwFull = s.cwFull := rfl
@[simp] theorem blankFrame_lastBlock : s.blankFrame.lastBlock = s.lastBlock := rfl

/-! ### Painting -/

@[simp] theorem paintBlock_cfg (c : Color) : (s.paintBlock c).cfg = s.cfg := rfl
@[simp] theorem paintBlock_cur (c : Color) : (s.paintBlock c).cur = s.cur := rfl
@[simp] theorem paintBlock_dscByte (c : Color) : (s.paintBlock c).dscByte = s.dscByte := rfl
@[simp] theorem paintBlock_dscPh (c : Color) : (s.paintBlock c).dscPh = s.dscPh := rfl
@[simp] theorem paintBlock_dacc (c : Color) : (s.paintBlock c).dacc = s.dacc := rfl
@[simp] theorem paintBlock_dcnt (c : Color) : (s.paintBlock c).dcnt = s.dcnt := rfl
@[simp] theorem paintBlock_cwbuf (c : Color) : (s.paintBlock c).cwbuf = s.cwbuf := rfl
@[simp] theorem paintBlock_cwcnt (c : Color) : (s.paintBlock c).cwcnt = s.cwcnt := rfl
@[simp] theorem paintBlock_cflag (c : Color) : (s.paintBlock c).cflag = s.cflag := rfl
@[simp] theorem paintBlock_cwidx (c : Color) : (s.paintBlock c).cwidx = s.cwidx := rfl
@[simp] theorem paintBlock_par (c : Color) : (s.paintBlock c).par = s.par := rfl
@[simp] theorem paintBlock_rseCnt (c : Color) : (s.paintBlock c).rseCnt = s.rseCnt := rfl
@[simp] theorem paintBlock_rsdBuf (c : Color) : (s.paintBlock c).rsdBuf = s.rsdBuf := rfl
@[simp] theorem paintBlock_rsdCnt (c : Color) : (s.paintBlock c).rsdCnt = s.rsdCnt := rfl
@[simp] theorem paintBlock_rsdOk (c : Color) : (s.paintBlock c).rsdOk = s.rsdOk := rfl
@[simp] theorem paintBlock_outCnt (c : Color) : (s.paintBlock c).outCnt = s.outCnt := rfl
@[simp] theorem paintBlock_frameValid (c : Color) : (s.paintBlock c).frameValid = s.frameValid := rfl
@[simp] theorem paintBlock_lenSet (c : Color) : (s.paintBlock c).lenSet = s.lenSet := rfl
@[simp] theorem paintBlock_fault (c : Color) : (s.paintBlock c).fault = s.fault := rfl
@[simp] theorem paintBlock_finfo (c : Color) : (s.paintBlock c).finfo = s.finfo := rfl
@[simp] theorem paintBlock_geomW (c : Color) : (s.paintBlock c).geomW = s.geomW := rfl
@[simp] theorem paintBlock_geomH (c : Color) : (s.paintBlock c).geomH = s.geomH := rfl
@[simp] theorem paintBlock_geomB (c : Color) : (s.paintBlock c).geomB = s.geomB := rfl
@[simp] theorem paintBlock_clsCtrl (c : Color) : (s.paintBlock c).clsCtrl = s.clsCtrl := rfl
@[simp] theorem paintBlock_tgtLen (c : Color) : (s.paintBlock c).tgtLen = s.tgtLen := rfl
@[simp] theorem paintBlock_frame (c : Color) : (s.paintBlock c).frame = (s.blockPixels s.cur.toNat).foldl (fun m q => Memory.setPixel m (s.pixelAddress q.1 q.2) c) s.frame := rfl
@[simp] theorem paintBlock_frameEpoch (c : Color) : (s.paintBlock c).frameEpoch = s.frameEpoch := rfl
@[simp] theorem paintBlock_inbox (c : Color) : (s.paintBlock c).inbox = s.inbox := rfl
@[simp] theorem paintBlock_response (c : Color) : (s.paintBlock c).response = s.response := rfl
@[simp] theorem paintBlock_frameBytes (c : Color) : (s.paintBlock c).frameBytes = s.frameBytes := rfl
@[simp] theorem paintBlock_cols (c : Color) : (s.paintBlock c).cols = s.cols := rfl
@[simp] theorem paintBlock_rows (c : Color) : (s.paintBlock c).rows = s.rows := rfl
@[simp] theorem paintBlock_cnt (c : Color) : (s.paintBlock c).cnt = s.cnt := rfl
@[simp] theorem paintBlock_done (c : Color) : (s.paintBlock c).done = s.done := rfl
@[simp] theorem paintBlock_cwFull (c : Color) : (s.paintBlock c).cwFull = s.cwFull := rfl
@[simp] theorem paintBlock_lastBlock (c : Color) : (s.paintBlock c).lastBlock = s.lastBlock := rfl

/-! ### `ENC.START` -/

@[simp] theorem encodeStart_cfg : s.encodeStart.cfg = s.cfg := rfl
@[simp] theorem encodeStart_cur : s.encodeStart.cur = 0 := rfl
@[simp] theorem encodeStart_dscByte : s.encodeStart.dscByte = 0 := rfl
@[simp] theorem encodeStart_dscPh : s.encodeStart.dscPh = 0 := rfl
@[simp] theorem encodeStart_dacc : s.encodeStart.dacc = s.dacc := rfl
@[simp] theorem encodeStart_dcnt : s.encodeStart.dcnt = s.dcnt := rfl
@[simp] theorem encodeStart_cwbuf : s.encodeStart.cwbuf = s.cwbuf := rfl
@[simp] theorem encodeStart_cwcnt : s.encodeStart.cwcnt = s.cwcnt := rfl
@[simp] theorem encodeStart_cflag : s.encodeStart.cflag = s.cflag := rfl
@[simp] theorem encodeStart_cwidx : s.encodeStart.cwidx = s.cwidx := rfl
@[simp] theorem encodeStart_par : s.encodeStart.par = List.replicate s.cfg.P 0 := rfl
@[simp] theorem encodeStart_rseCnt : s.encodeStart.rseCnt = 0 := rfl
@[simp] theorem encodeStart_rsdBuf : s.encodeStart.rsdBuf = s.rsdBuf := rfl
@[simp] theorem encodeStart_rsdCnt : s.encodeStart.rsdCnt = s.rsdCnt := rfl
@[simp] theorem encodeStart_rsdOk : s.encodeStart.rsdOk = s.rsdOk := rfl
@[simp] theorem encodeStart_outCnt : s.encodeStart.outCnt = s.outCnt := rfl
@[simp] theorem encodeStart_frameValid : s.encodeStart.frameValid = s.frameValid := rfl
@[simp] theorem encodeStart_lenSet : s.encodeStart.lenSet = s.lenSet := rfl
@[simp] theorem encodeStart_fault : s.encodeStart.fault = s.fault := rfl
@[simp] theorem encodeStart_finfo : s.encodeStart.finfo = s.finfo := rfl
@[simp] theorem encodeStart_geomW : s.encodeStart.geomW = s.geomW := rfl
@[simp] theorem encodeStart_geomH : s.encodeStart.geomH = s.geomH := rfl
@[simp] theorem encodeStart_geomB : s.encodeStart.geomB = s.geomB := rfl
@[simp] theorem encodeStart_clsCtrl : s.encodeStart.clsCtrl = s.clsCtrl := rfl
@[simp] theorem encodeStart_tgtLen : s.encodeStart.tgtLen = s.tgtLen := rfl
@[simp] theorem encodeStart_frame : s.encodeStart.frame = Memory.writeFrame s.frame (List.replicate s.frameBytes Config.blank) := rfl
@[simp] theorem encodeStart_frameEpoch : s.encodeStart.frameEpoch = s.frameEpoch := rfl
@[simp] theorem encodeStart_inbox : s.encodeStart.inbox = s.inbox := rfl
@[simp] theorem encodeStart_response : s.encodeStart.response = s.response := rfl
@[simp] theorem encodeStart_frameBytes : s.encodeStart.frameBytes = s.frameBytes := rfl
@[simp] theorem encodeStart_cols : s.encodeStart.cols = s.cols := rfl
@[simp] theorem encodeStart_rows : s.encodeStart.rows = s.rows := rfl
@[simp] theorem encodeStart_cnt : s.encodeStart.cnt = s.cnt := rfl
@[simp] theorem encodeStart_done : s.encodeStart.done = s.done := rfl
@[simp] theorem encodeStart_cwFull : s.encodeStart.cwFull = s.cwFull := rfl

/-! ### The end of `ENC.END` -/

@[simp] theorem encodeEnd_cfg : s.encodeEnd.cfg = s.cfg := rfl
@[simp] theorem encodeEnd_cur : s.encodeEnd.cur = s.cur := rfl
@[simp] theorem encodeEnd_dscByte : s.encodeEnd.dscByte = 0 := rfl
@[simp] theorem encodeEnd_dscPh : s.encodeEnd.dscPh = s.dscPh := rfl
@[simp] theorem encodeEnd_dacc : s.encodeEnd.dacc = s.dacc := rfl
@[simp] theorem encodeEnd_dcnt : s.encodeEnd.dcnt = s.dcnt := rfl
@[simp] theorem encodeEnd_cwbuf : s.encodeEnd.cwbuf = s.cwbuf := rfl
@[simp] theorem encodeEnd_cwcnt : s.encodeEnd.cwcnt = s.cwcnt := rfl
@[simp] theorem encodeEnd_cflag : s.encodeEnd.cflag = s.cflag := rfl
@[simp] theorem encodeEnd_cwidx : s.encodeEnd.cwidx = s.cwidx := rfl
@[simp] theorem encodeEnd_par : s.encodeEnd.par = s.par := rfl
@[simp] theorem encodeEnd_rseCnt : s.encodeEnd.rseCnt = s.rseCnt := rfl
@[simp] theorem encodeEnd_rsdBuf : s.encodeEnd.rsdBuf = s.rsdBuf := rfl
@[simp] theorem encodeEnd_rsdCnt : s.encodeEnd.rsdCnt = s.rsdCnt := rfl
@[simp] theorem encodeEnd_rsdOk : s.encodeEnd.rsdOk = s.rsdOk := rfl
@[simp] theorem encodeEnd_outCnt : s.encodeEnd.outCnt = s.outCnt := rfl
@[simp] theorem encodeEnd_frameValid : s.encodeEnd.frameValid = s.frameValid := rfl
@[simp] theorem encodeEnd_lenSet : s.encodeEnd.lenSet = s.lenSet := rfl
@[simp] theorem encodeEnd_fault : s.encodeEnd.fault = s.fault := rfl
@[simp] theorem encodeEnd_finfo : s.encodeEnd.finfo = s.finfo := rfl
@[simp] theorem encodeEnd_geomW : s.encodeEnd.geomW = s.geomW := rfl
@[simp] theorem encodeEnd_geomH : s.encodeEnd.geomH = s.geomH := rfl
@[simp] theorem encodeEnd_geomB : s.encodeEnd.geomB = s.geomB := rfl
@[simp] theorem encodeEnd_clsCtrl : s.encodeEnd.clsCtrl = s.clsCtrl := rfl
@[simp] theorem encodeEnd_tgtLen : s.encodeEnd.tgtLen = s.tgtLen := rfl
@[simp] theorem encodeEnd_frame : s.encodeEnd.frame = s.frame := rfl
@[simp] theorem encodeEnd_frameEpoch : s.encodeEnd.frameEpoch = s.frameEpoch := rfl
@[simp] theorem encodeEnd_inbox : s.encodeEnd.inbox = s.inbox := rfl
@[simp] theorem encodeEnd_response : s.encodeEnd.response = s.response := rfl
@[simp] theorem encodeEnd_frameBytes : s.encodeEnd.frameBytes = s.frameBytes := rfl
@[simp] theorem encodeEnd_cols : s.encodeEnd.cols = s.cols := rfl
@[simp] theorem encodeEnd_rows : s.encodeEnd.rows = s.rows := rfl
@[simp] theorem encodeEnd_cnt : s.encodeEnd.cnt = s.cnt := rfl
@[simp] theorem encodeEnd_done : s.encodeEnd.done = s.done := rfl
@[simp] theorem encodeEnd_cwFull : s.encodeEnd.cwFull = s.cwFull := rfl
@[simp] theorem encodeEnd_lastBlock : s.encodeEnd.lastBlock = s.lastBlock := rfl
@[simp] theorem close_state (e : EncodeRun) : e.close.state = e.state.encodeEnd := rfl
@[simp] theorem close_events (e : EncodeRun) : e.close.events = e.events := rfl

/-! ### `DEC.START` -/

@[simp] theorem decodeStart_cfg : s.decodeStart.cfg = s.cfg := rfl
@[simp] theorem decodeStart_cur : s.decodeStart.cur = 0 := rfl
@[simp] theorem decodeStart_dscByte : s.decodeStart.dscByte = s.dscByte := rfl
@[simp] theorem decodeStart_dscPh : s.decodeStart.dscPh = s.dscPh := rfl
@[simp] theorem decodeStart_dacc : s.decodeStart.dacc = 0 := rfl
@[simp] theorem decodeStart_dcnt : s.decodeStart.dcnt = 0 := rfl
@[simp] theorem decodeStart_cwbuf : s.decodeStart.cwbuf = s.cwbuf := rfl
@[simp] theorem decodeStart_cwcnt : s.decodeStart.cwcnt = 0 := rfl
@[simp] theorem decodeStart_cflag : s.decodeStart.cflag = false := rfl
@[simp] theorem decodeStart_cwidx : s.decodeStart.cwidx = 0 := rfl
@[simp] theorem decodeStart_par : s.decodeStart.par = s.par := rfl
@[simp] theorem decodeStart_rseCnt : s.decodeStart.rseCnt = s.rseCnt := rfl
@[simp] theorem decodeStart_rsdBuf : s.decodeStart.rsdBuf = s.rsdBuf := rfl
@[simp] theorem decodeStart_rsdCnt : s.decodeStart.rsdCnt = 0 := rfl
@[simp] theorem decodeStart_rsdOk : s.decodeStart.rsdOk = false := rfl
@[simp] theorem decodeStart_outCnt : s.decodeStart.outCnt = 0 := rfl
@[simp] theorem decodeStart_frameValid : s.decodeStart.frameValid = false := rfl
@[simp] theorem decodeStart_lenSet : s.decodeStart.lenSet = s.lenSet := rfl
@[simp] theorem decodeStart_fault : s.decodeStart.fault = s.fault := rfl
@[simp] theorem decodeStart_finfo : s.decodeStart.finfo = s.finfo := rfl
@[simp] theorem decodeStart_geomW : s.decodeStart.geomW = s.geomW := rfl
@[simp] theorem decodeStart_geomH : s.decodeStart.geomH = s.geomH := rfl
@[simp] theorem decodeStart_geomB : s.decodeStart.geomB = s.geomB := rfl
@[simp] theorem decodeStart_clsCtrl : s.decodeStart.clsCtrl = s.clsCtrl := rfl
@[simp] theorem decodeStart_tgtLen : s.decodeStart.tgtLen = s.tgtLen := rfl
@[simp] theorem decodeStart_frame : s.decodeStart.frame = s.frame := rfl
@[simp] theorem decodeStart_frameEpoch : s.decodeStart.frameEpoch = s.frameEpoch := rfl
@[simp] theorem decodeStart_inbox : s.decodeStart.inbox = s.inbox := rfl
@[simp] theorem decodeStart_response : s.decodeStart.response = s.response := rfl
@[simp] theorem decodeStart_frameBytes : s.decodeStart.frameBytes = s.frameBytes := rfl
@[simp] theorem decodeStart_cols : s.decodeStart.cols = s.cols := rfl
@[simp] theorem decodeStart_rows : s.decodeStart.rows = s.rows := rfl
@[simp] theorem decodeStart_cnt : s.decodeStart.cnt = s.cnt := rfl

/-! ### The consumption of a block -/

@[simp] theorem consumeBlock_cfg : s.consumeBlock.cfg = s.cfg := rfl
@[simp] theorem consumeBlock_cur : s.consumeBlock.cur = if s.lastBlock then 0 else s.cur + 1 := rfl
@[simp] theorem consumeBlock_dscByte : s.consumeBlock.dscByte = s.dscByte := rfl
@[simp] theorem consumeBlock_dscPh : s.consumeBlock.dscPh = s.dscPh := rfl
@[simp] theorem consumeBlock_dacc : s.consumeBlock.dacc = s.dacc := rfl
@[simp] theorem consumeBlock_dcnt : s.consumeBlock.dcnt = s.dcnt := rfl
@[simp] theorem consumeBlock_cwbuf : s.consumeBlock.cwbuf = s.cwbuf := rfl
@[simp] theorem consumeBlock_cwcnt : s.consumeBlock.cwcnt = s.cwcnt := rfl
@[simp] theorem consumeBlock_cflag : s.consumeBlock.cflag = s.cflag := rfl
@[simp] theorem consumeBlock_cwidx : s.consumeBlock.cwidx = s.cwidx := rfl
@[simp] theorem consumeBlock_par : s.consumeBlock.par = s.par := rfl
@[simp] theorem consumeBlock_rseCnt : s.consumeBlock.rseCnt = s.rseCnt := rfl
@[simp] theorem consumeBlock_rsdBuf : s.consumeBlock.rsdBuf = s.rsdBuf := rfl
@[simp] theorem consumeBlock_rsdCnt : s.consumeBlock.rsdCnt = s.rsdCnt := rfl
@[simp] theorem consumeBlock_rsdOk : s.consumeBlock.rsdOk = s.rsdOk := rfl
@[simp] theorem consumeBlock_outCnt : s.consumeBlock.outCnt = s.outCnt := rfl
@[simp] theorem consumeBlock_frameValid : s.consumeBlock.frameValid = if s.lastBlock then false else s.frameValid := rfl
@[simp] theorem consumeBlock_lenSet : s.consumeBlock.lenSet = s.lenSet := rfl
@[simp] theorem consumeBlock_fault : s.consumeBlock.fault = s.fault := rfl
@[simp] theorem consumeBlock_finfo : s.consumeBlock.finfo = s.finfo := rfl
@[simp] theorem consumeBlock_geomW : s.consumeBlock.geomW = s.geomW := rfl
@[simp] theorem consumeBlock_geomH : s.consumeBlock.geomH = s.geomH := rfl
@[simp] theorem consumeBlock_geomB : s.consumeBlock.geomB = s.geomB := rfl
@[simp] theorem consumeBlock_clsCtrl : s.consumeBlock.clsCtrl = s.clsCtrl := rfl
@[simp] theorem consumeBlock_tgtLen : s.consumeBlock.tgtLen = s.tgtLen := rfl
@[simp] theorem consumeBlock_frame : s.consumeBlock.frame = s.frame := rfl
@[simp] theorem consumeBlock_frameEpoch : s.consumeBlock.frameEpoch = s.frameEpoch := rfl
@[simp] theorem consumeBlock_inbox : s.consumeBlock.inbox = s.inbox := rfl
@[simp] theorem consumeBlock_response : s.consumeBlock.response = s.response := rfl
@[simp] theorem consumeBlock_frameBytes : s.consumeBlock.frameBytes = s.frameBytes := rfl
@[simp] theorem consumeBlock_cols : s.consumeBlock.cols = s.cols := rfl
@[simp] theorem consumeBlock_rows : s.consumeBlock.rows = s.rows := rfl
@[simp] theorem consumeBlock_cnt : s.consumeBlock.cnt = s.cnt := rfl
@[simp] theorem consumeBlock_done : s.consumeBlock.done = s.done := rfl
@[simp] theorem consumeBlock_cwFull : s.consumeBlock.cwFull = s.cwFull := rfl

/-! ### `SYS.RESET` -/

@[simp] theorem resetRegisters_cfg : s.resetRegisters.cfg = s.cfg := rfl
@[simp] theorem resetRegisters_cur : s.resetRegisters.cur = (State.init s.cfg).cur := rfl
@[simp] theorem resetRegisters_dscByte : s.resetRegisters.dscByte = (State.init s.cfg).dscByte := rfl
@[simp] theorem resetRegisters_dscPh : s.resetRegisters.dscPh = (State.init s.cfg).dscPh := rfl
@[simp] theorem resetRegisters_dacc : s.resetRegisters.dacc = (State.init s.cfg).dacc := rfl
@[simp] theorem resetRegisters_dcnt : s.resetRegisters.dcnt = (State.init s.cfg).dcnt := rfl
@[simp] theorem resetRegisters_cwbuf : s.resetRegisters.cwbuf = (State.init s.cfg).cwbuf := rfl
@[simp] theorem resetRegisters_cwcnt : s.resetRegisters.cwcnt = (State.init s.cfg).cwcnt := rfl
@[simp] theorem resetRegisters_cflag : s.resetRegisters.cflag = (State.init s.cfg).cflag := rfl
@[simp] theorem resetRegisters_cwidx : s.resetRegisters.cwidx = (State.init s.cfg).cwidx := rfl
@[simp] theorem resetRegisters_par : s.resetRegisters.par = (State.init s.cfg).par := rfl
@[simp] theorem resetRegisters_rseCnt : s.resetRegisters.rseCnt = (State.init s.cfg).rseCnt := rfl
@[simp] theorem resetRegisters_rsdBuf : s.resetRegisters.rsdBuf = (State.init s.cfg).rsdBuf := rfl
@[simp] theorem resetRegisters_rsdCnt : s.resetRegisters.rsdCnt = (State.init s.cfg).rsdCnt := rfl
@[simp] theorem resetRegisters_rsdOk : s.resetRegisters.rsdOk = (State.init s.cfg).rsdOk := rfl
@[simp] theorem resetRegisters_outCnt : s.resetRegisters.outCnt = (State.init s.cfg).outCnt := rfl
@[simp] theorem resetRegisters_frameValid : s.resetRegisters.frameValid = (State.init s.cfg).frameValid := rfl
@[simp] theorem resetRegisters_lenSet : s.resetRegisters.lenSet = (State.init s.cfg).lenSet := rfl
@[simp] theorem resetRegisters_fault : s.resetRegisters.fault = (State.init s.cfg).fault := rfl
@[simp] theorem resetRegisters_finfo : s.resetRegisters.finfo = (State.init s.cfg).finfo := rfl
@[simp] theorem resetRegisters_geomW : s.resetRegisters.geomW = (State.init s.cfg).geomW := rfl
@[simp] theorem resetRegisters_geomH : s.resetRegisters.geomH = (State.init s.cfg).geomH := rfl
@[simp] theorem resetRegisters_geomB : s.resetRegisters.geomB = (State.init s.cfg).geomB := rfl
@[simp] theorem resetRegisters_clsCtrl : s.resetRegisters.clsCtrl = (State.init s.cfg).clsCtrl := rfl
@[simp] theorem resetRegisters_tgtLen : s.resetRegisters.tgtLen = (State.init s.cfg).tgtLen := rfl
@[simp] theorem resetRegisters_frame : s.resetRegisters.frame = s.frame := rfl
@[simp] theorem resetRegisters_frameEpoch : s.resetRegisters.frameEpoch = s.frameEpoch := rfl
@[simp] theorem resetRegisters_inbox : s.resetRegisters.inbox = s.inbox := rfl
@[simp] theorem resetRegisters_response : s.resetRegisters.response = s.response := rfl

/-! ### The hardware reset -/

@[simp] theorem hardwareReset_cfg : s.hardwareReset.cfg = s.cfg := rfl
@[simp] theorem hardwareReset_cur : s.hardwareReset.cur = (State.init s.cfg).cur := rfl
@[simp] theorem hardwareReset_dscByte : s.hardwareReset.dscByte = (State.init s.cfg).dscByte := rfl
@[simp] theorem hardwareReset_dscPh : s.hardwareReset.dscPh = (State.init s.cfg).dscPh := rfl
@[simp] theorem hardwareReset_dacc : s.hardwareReset.dacc = (State.init s.cfg).dacc := rfl
@[simp] theorem hardwareReset_dcnt : s.hardwareReset.dcnt = (State.init s.cfg).dcnt := rfl
@[simp] theorem hardwareReset_cwbuf : s.hardwareReset.cwbuf = (State.init s.cfg).cwbuf := rfl
@[simp] theorem hardwareReset_cwcnt : s.hardwareReset.cwcnt = (State.init s.cfg).cwcnt := rfl
@[simp] theorem hardwareReset_cflag : s.hardwareReset.cflag = (State.init s.cfg).cflag := rfl
@[simp] theorem hardwareReset_cwidx : s.hardwareReset.cwidx = (State.init s.cfg).cwidx := rfl
@[simp] theorem hardwareReset_par : s.hardwareReset.par = (State.init s.cfg).par := rfl
@[simp] theorem hardwareReset_rseCnt : s.hardwareReset.rseCnt = (State.init s.cfg).rseCnt := rfl
@[simp] theorem hardwareReset_rsdBuf : s.hardwareReset.rsdBuf = (State.init s.cfg).rsdBuf := rfl
@[simp] theorem hardwareReset_rsdCnt : s.hardwareReset.rsdCnt = (State.init s.cfg).rsdCnt := rfl
@[simp] theorem hardwareReset_rsdOk : s.hardwareReset.rsdOk = (State.init s.cfg).rsdOk := rfl
@[simp] theorem hardwareReset_outCnt : s.hardwareReset.outCnt = (State.init s.cfg).outCnt := rfl
@[simp] theorem hardwareReset_frameValid : s.hardwareReset.frameValid = (State.init s.cfg).frameValid := rfl
@[simp] theorem hardwareReset_lenSet : s.hardwareReset.lenSet = (State.init s.cfg).lenSet := rfl
@[simp] theorem hardwareReset_fault : s.hardwareReset.fault = (State.init s.cfg).fault := rfl
@[simp] theorem hardwareReset_finfo : s.hardwareReset.finfo = (State.init s.cfg).finfo := rfl
@[simp] theorem hardwareReset_geomW : s.hardwareReset.geomW = (State.init s.cfg).geomW := rfl
@[simp] theorem hardwareReset_geomH : s.hardwareReset.geomH = (State.init s.cfg).geomH := rfl
@[simp] theorem hardwareReset_geomB : s.hardwareReset.geomB = (State.init s.cfg).geomB := rfl
@[simp] theorem hardwareReset_clsCtrl : s.hardwareReset.clsCtrl = (State.init s.cfg).clsCtrl := rfl
@[simp] theorem hardwareReset_tgtLen : s.hardwareReset.tgtLen = (State.init s.cfg).tgtLen := rfl
@[simp] theorem hardwareReset_frame : s.hardwareReset.frame = (State.init s.cfg).frame := rfl
@[simp] theorem hardwareReset_frameEpoch : s.hardwareReset.frameEpoch = s.frameEpoch + 1 := rfl
@[simp] theorem hardwareReset_inbox : s.hardwareReset.inbox = s.inbox := rfl
@[simp] theorem hardwareReset_response : s.hardwareReset.response = (State.init s.cfg).response := rfl

end Sys2Proof.Machine
end

