-- ==== Sys2Proof/Laws/Ops.lean ====
section
/-!
SUPPORT. One lemma per shared operation that says once everything it can do; proofs cite these instead of unfolding the
operation.
-/

namespace Sys2Proof.Machine

variable {s t : State}

/-! ### Commands -/

@[simp] theorem finish_ok (s : State) (d : Done) : finish s (.ok d) = .next (d.state.answer d.rsp d.events) := rfl

@[simp] theorem finish_raised (s : State) (k : FaultKind) (info : Word48) :
    finish s (raised k info) = .next (s.takeFault k info) := rfl

/-- A command to a faulted block is refused (R298). -/
theorem command_of_faulted (h : s.fault ≠ none) (body : Except Stop Done) : command s body = .next s.refuse := by
  unfold command
  cases hf : s.fault with
  | none => exact absurd hf h
  | some k => rfl

/-- A command to a block that is not faulted has its own outcome. -/
theorem command_of_running (h : s.fault = none) (body : Except Stop Done) : command s body = finish s body := by
  unfold command
  rw [h]

/-- Everything a command can do when it answers a next state (R16). -/
theorem command_next {body : Except Stop Done} (h : command s body = .next t) :
    (s.fault ≠ none ∧ t = s.refuse) ∨
    (s.fault = none ∧ ∃ d, body = .ok d ∧ t = d.state.answer d.rsp d.events) ∨
    (s.fault = none ∧ ∃ k info, body = .error (.raised k info) ∧ t = s.takeFault k info) := by
  by_cases hf : s.fault = none
  · rw [command_of_running hf] at h
    match body, h with
    | .ok d, h => exact .inr (.inl ⟨hf, d, rfl, by injection h with h; exact h.symm⟩)
    | .error (.raised k info), h => exact .inr (.inr ⟨hf, k, info, rfl, by injection h with h; exact h.symm⟩)
    | .error (.model f), h => cases h
  · rw [command_of_faulted hf] at h
    exact .inl ⟨hf, by injection h with h; exact h.symm⟩

/-- A command never refuses in the model's own sense. -/
theorem command_not_refused (body : Except Stop Done) (r : Refusal) : command s body ≠ .refused r := by
  intro h
  by_cases hf : s.fault = none
  · rw [command_of_running hf] at h
    match body, h with
    | .ok _, h => cases h
    | .error (.raised _ _), h => cases h
    | .error (.model _), h => cases h
  · rw [command_of_faulted hf] at h
    cases h

/-- When a command stops the model: only a body that says so. -/
theorem command_fault {body : Except Stop Done} {f : Fault} (h : command s body = .fault f) :
    s.fault = none ∧ body = .error (.model f) := by
  by_cases hf : s.fault = none
  · rw [command_of_running hf] at h
    match body, h with
    | .ok d, h => cases h
    | .error (.raised k info), h => cases h
    | .error (.model g), h => exact ⟨hf, by injection h with h; rw [h]⟩
  · rw [command_of_faulted hf] at h
    cases h

/-- Everything the check for a block operand can do. -/
theorem onBlock_cases (s : State) (op : Word48) (i : BlockIndex) (body : Except Stop Done) :
    (s.cnt = 0 ∧ onBlock s op i body = raised .configError op) ∨
    (0 < s.cnt ∧ s.cnt ≤ i.toNat ∧ onBlock s op i body = raised .operandRange op) ∨
    (i.toNat < s.cnt ∧ onBlock s op i body = body) := by
  unfold onBlock
  split
  · exact .inl ⟨‹_›, rfl⟩
  · split
    · exact .inr (.inl ⟨by omega, ‹_›, rfl⟩)
    · exact .inr (.inr ⟨by omega, rfl⟩)

/-- Everything the checks of `ENC.BYTE` and `ENC.END` can do. -/
theorem encodeReady_cases (s : State) (op : Word48) (body : Except Stop Done) :
    (s.cnt = 0 ∧ encodeReady s op body = raised .configError op) ∨
    (0 < s.cnt ∧ (s.dscPh ≠ 0 ∨ s.rseCnt.toNat = s.cfg.K) ∧ encodeReady s op body = raised .sequenceError op) ∨
    (0 < s.cnt ∧ s.dscPh = 0 ∧ s.rseCnt.toNat ≠ s.cfg.K ∧ encodeReady s op body = body) := by
  unfold encodeReady
  split
  · exact .inl ⟨‹_›, rfl⟩
  · rename_i h0
    split
    · exact .inr (.inl ⟨by omega, ‹_›, rfl⟩)
    · rename_i h1
      rw [not_or, not_not] at h1
      exact .inr (.inr ⟨by omega, h1.1, h1.2, rfl⟩)

/-- Everything a host load can do (R312). -/
theorem hostLoad_next {raster : List Byte} (h : hostLoad raster s = .next t) :
    raster.length = s.frameBytes ∧ t = { s with frame := Memory.writeFrame s.frame raster } := by
  unfold hostLoad at h
  split at h
  · exact ⟨‹_›, by injection h with h; exact h.symm⟩
  · cases h

/-! ### The Reed-Solomon decoder and the packer -/

/-- The fast path (R184, R187). -/
@[simp] theorem rsdCorrect_false (s : State) : s.rsdCorrect false = .ok ({ s with rsdOk := true }, 0) := rfl

/-- Everything the body of `RSD.DECODE` can do when it completes (R184). -/
theorem rsdCorrect_ok {f : Bool} {n : Nat} (h : s.rsdCorrect f = .ok (t, n)) :
    (f = false ∧ t = { s with rsdOk := true } ∧ n = 0) ∨
    (f = true ∧ ∃ c, rsCorrect s.cfg.P s.rsdBuf = some c ∧ t = { s with rsdBuf := c, rsdOk := true } ∧
      n = hammingDist s.rsdBuf c) := by
  unfold State.rsdCorrect at h
  cases f with
  | false =>
    simp only [Bool.false_eq_true, if_false, Except.ok.injEq, Prod.mk.injEq] at h
    exact .inl ⟨rfl, h.1.symm, h.2.symm⟩
  | true =>
    simp only [if_true] at h
    cases hc : rsCorrect s.cfg.P s.rsdBuf with
    | none =>
      rw [hc] at h
      cases h
    | some c =>
      rw [hc] at h
      simp only [Except.ok.injEq, Prod.mk.injEq] at h
      exact .inr ⟨rfl, c, rfl, h.1.symm, h.2.symm⟩

/-- The only way the body of `RSD.DECODE` does not complete (R184). -/
theorem rsdCorrect_error {f : Bool} {e : Stop} (h : s.rsdCorrect f = .error e) :
    f = true ∧ rsCorrect s.cfg.P s.rsdBuf = none ∧ e = .raised .uncorrectableCodeword s.cwidx := by
  unfold State.rsdCorrect at h
  cases f with
  | false =>
    simp only [Bool.false_eq_true, if_false] at h
    cases h
  | true =>
    simp only [if_true] at h
    cases hc : rsCorrect s.cfg.P s.rsdBuf with
    | none =>
      rw [hc] at h
      injection h with h
      exact ⟨rfl, rfl, h.symm⟩
    | some c =>
      rw [hc] at h
      cases h

/-- A push that does not complete a byte (R221). -/
theorem sspTake_partial (h : s.dcnt < 2) (d : Digit) (indet : Bool) :
    s.sspTake d indet =
      ({ s with
          cflag := s.cflag || indet
          dacc := (accumulate s.dacc (pushedDigit d indet)).setWidth 6
          dcnt := s.dcnt + 1 }, ⟨false, false, 0⟩) := by
  unfold State.sspTake
  rw [if_pos h]

/-- A push that completes a byte (R221). -/
theorem sspTake_byte (h : ¬ s.dcnt < 2) (d : Digit) (indet : Bool) :
    s.sspTake d indet =
      ({ s with
          cflag := s.cflag || indet
          cwbuf := s.cwbuf.set s.cwcnt.toNat ((accumulate s.dacc (pushedDigit d indet)).setWidth 8)
          cwcnt := s.cwcnt + 1
          dacc := 0
          dcnt := 0 },
       ⟨true, decide (s.cwcnt.toNat + 1 = s.cfg.N), (accumulate s.dacc (pushedDigit d indet)).setWidth 8⟩) := by
  unfold State.sspTake
  rw [if_neg h]

/-- The 9-bit value of the accumulator with one more digit (R221). -/
theorem toNat_accumulate (a : BitVec 6) (d : Digit) : (accumulate a d).toNat = 8 * a.toNat + d.toNat := by
  have ha := a.isLt
  have hd := d.isLt
  simp only [accumulate, BitVec.toNat_or, BitVec.toNat_shiftLeft, BitVec.toNat_setWidth]
  rw [Nat.mod_eq_of_lt (show a.toNat < 2 ^ 9 by omega), Nat.mod_eq_of_lt (show d.toNat < 2 ^ 9 by omega),
    Nat.shiftLeft_eq, Nat.mod_eq_of_lt (show a.toNat * 2 ^ 3 < 2 ^ 9 by omega), ← Nat.shiftLeft_eq,
    ← Nat.shiftLeft_add_eq_or_of_lt (by omega), Nat.shiftLeft_eq]
  omega

/-! ### The error search -/

/-- The error search with no positions left: the syndromes must all be 0. -/
theorem errorSearch_nil (t : Nat) (S : List Byte) (e : List Byte) :
    errorSearch [] t S = some e ↔ (∀ v ∈ S, v = 0) ∧ e = [] := by
  have h : errorSearch [] t S = if S.all (fun v => decide (v = 0)) then some [] else none := by
    cases t <;> rfl
  rw [h]
  by_cases hS : ∀ v ∈ S, v = 0
  · rw [if_pos (by simpa using hS)]
    constructor
    · intro he
      injection he with he
      exact ⟨hS, he.symm⟩
    · intro he
      rw [he.2]
  · rw [if_neg (by simpa using hS)]
    constructor
    · intro he
      cases he
    · intro he
      exact absurd he.1 hS

/-- Everything the error search can find: no error at the first position, or one, within the weight that is left. -/
theorem errorSearch_cons {x : Byte} {xs : List Byte} {n : Nat} {S e : List Byte}
    (h : errorSearch (x :: xs) n S = some e) :
    (∃ e', errorSearch xs n S = some e' ∧ e = 0 :: e') ∨
    (∃ n' e', n = n' + 1 ∧ errorSearch xs n S = none ∧ errorSearch xs n' (peel x S) = some e' ∧
      e = gfAdd (S.headD 0) (gfSum (List.zipWith (fun z y => gfMul y (gfInv (gfAdd z x))) xs e')) ::
        List.zipWith (fun z y => gfMul y (gfInv (gfAdd z x))) xs e') := by
  unfold errorSearch at h
  cases h1 : errorSearch xs n S with
  | some e' =>
    rw [h1] at h
    injection h with h
    exact .inl ⟨e', rfl, h.symm⟩
  | none =>
    rw [h1] at h
    cases n with
    | zero => cases h
    | succ n' =>
      simp only at h
      cases h2 : errorSearch xs n' (peel x S) with
      | none =>
        rw [h2] at h
        cases h
      | some e' =>
        rw [h2] at h
        injection h with h
        exact .inr ⟨n', e', rfl, rfl, h2, h.symm⟩

/-! ### Steps -/

/-- With nothing presented a step changes nothing. -/
theorem step_idle (h : s.inbox = []) : step s = .next s := by
  unfold step
  rw [h]

/-- A step on a presented word. -/
theorem step_command {w : Word} {rest : List HostAction} (h : s.inbox = .command w :: rest) :
    step s = present w { s with inbox := rest } := by
  unfold step
  rw [h]

/-- A step on a host load. -/
theorem step_loadFrame {raster : List Byte} {rest : List HostAction} (h : s.inbox = .loadFrame raster :: rest) :
    step s = hostLoad raster { s with inbox := rest } := by
  unfold step
  rw [h]

/-- A step on a hardware reset. -/
theorem step_hardwareReset {rest : List HostAction} (h : s.inbox = .hardwareReset :: rest) :
    step s = .next ({ s with inbox := rest } : State).hardwareReset := by
  unfold step
  rw [h]

/-- A presented word is executed when it decodes and faults `IllegalCommand` when it does not (R88). -/
theorem present_cases (w : Word) (s : State) :
    (∃ i, decode w = .ok i ∧ present w s = exec i s) ∨
    (∃ e, decode w = .error e ∧ present w s = illegalCommand w s) := by
  unfold present
  cases decode w with
  | ok i => exact .inl ⟨i, rfl, rfl⟩
  | error e => exact .inr ⟨e, rfl, rfl⟩

end Sys2Proof.Machine
end

