-- ==== Sys2Proof/Laws/PerInstr.lean ====
section
/-!
SUPPORT. Statements about every operation as syntax, one lemma per constructor: the operand of a command lies in the
low-order slice of `arg` that spec/30_encoding.md rule R85 gives it, so the bits above it are 0 (R83).
-/

namespace Sys2Proof

/-- The width of the operand slice of `arg` (R83, R85); 3 holds both legal codes of `SYS.ABORT`. -/
def operandWidth : Instr → Nat
  | .sysAbortSink | .sysAbortSource | .aceColorof _ => 3
  | .acdDigitof _ | .bccScore _ | .bccSnap _ | .bccThresh _ => 24
  | .bccClsnc _ | .bccClsth _ | .bccClassify _ | .flgBlkorg _ => 24
  | .rseByte _ | .rsePar _ | .rsdByte _ | .rsdRead _ | .rsdSynd _ => 8
  | .sspCwrd _ | .dscLoad _ | .dscExpand _ | .encByte _ => 8
  | .rsdDecode _ | .csrwClsCtrl _ => 1
  | .sspPush _ _ => 4
  | .csrwGeomW _ | .csrwGeomH _ | .csrwGeomB _ => 12
  | .csrwTgtLen _ => 48
  | .sysReset | .rseStart | .rsdStart | .flgBlkcnt | .flgCurrst | .flgCurnext | .flgRescale | .sspStart
  | .sspCwpop | .dscNext | .encStart | .encEnd | .decStart | .decFrame | .decBlock | .decEos | .csrr _ => 0

/-- A field zero-extended to `arg` stays below the bound of its width. -/
theorem setWidth_arg_lt {n : Nat} (v : BitVec n) : (v.setWidth 48).toNat < 2 ^ n := by
  rw [BitVec.toNat_setWidth]
  exact Nat.lt_of_le_of_lt (Nat.mod_le _ _) v.isLt

end Sys2Proof

namespace Sys2Proof.Laws.OperandFits

/-- The operand lies in its slice. -/
def Statement (i : Instr) : Prop := i.arg.toNat < 2 ^ operandWidth i

theorem sysReset : Statement .sysReset := by simp only [Statement]; decide
theorem sysAbortSink : Statement .sysAbortSink := by simp only [Statement]; decide
theorem sysAbortSource : Statement .sysAbortSource := by simp only [Statement]; decide
theorem aceColorof (digit : BitVec 3) : Statement (.aceColorof digit) := setWidth_arg_lt digit
theorem acdDigitof (color : BitVec 24) : Statement (.acdDigitof color) := setWidth_arg_lt color
theorem bccScore (pixel : BitVec 24) : Statement (.bccScore pixel) := setWidth_arg_lt pixel
theorem bccSnap (pixel : BitVec 24) : Statement (.bccSnap pixel) := setWidth_arg_lt pixel
theorem bccThresh (pixel : BitVec 24) : Statement (.bccThresh pixel) := setWidth_arg_lt pixel
theorem bccClsnc (index : BitVec 24) : Statement (.bccClsnc index) := setWidth_arg_lt index
theorem bccClsth (index : BitVec 24) : Statement (.bccClsth index) := setWidth_arg_lt index
theorem bccClassify (index : BitVec 24) : Statement (.bccClassify index) := setWidth_arg_lt index
theorem rseStart : Statement .rseStart := by simp only [Statement]; decide
theorem rseByte (byte : BitVec 8) : Statement (.rseByte byte) := setWidth_arg_lt byte
theorem rsePar (j : BitVec 8) : Statement (.rsePar j) := setWidth_arg_lt j
theorem rsdStart : Statement .rsdStart := by simp only [Statement]; decide
theorem rsdByte (byte : BitVec 8) : Statement (.rsdByte byte) := setWidth_arg_lt byte
theorem rsdDecode (flag : BitVec 1) : Statement (.rsdDecode flag) := setWidth_arg_lt flag
theorem rsdRead (j : BitVec 8) : Statement (.rsdRead j) := setWidth_arg_lt j
theorem rsdSynd (j : BitVec 8) : Statement (.rsdSynd j) := setWidth_arg_lt j
theorem flgBlkcnt : Statement .flgBlkcnt := by simp only [Statement]; decide
theorem flgBlkorg (index : BitVec 24) : Statement (.flgBlkorg index) := setWidth_arg_lt index
theorem flgCurrst : Statement .flgCurrst := by simp only [Statement]; decide
theorem flgCurnext : Statement .flgCurnext := by simp only [Statement]; decide
theorem flgRescale : Statement .flgRescale := by simp only [Statement]; decide
theorem sspStart : Statement .sspStart := by simp only [Statement]; decide
theorem sspPush (indet : BitVec 1) (digit : BitVec 3) : Statement (.sspPush indet digit) := setWidth_arg_lt _
theorem sspCwrd (j : BitVec 8) : Statement (.sspCwrd j) := setWidth_arg_lt j
theorem sspCwpop : Statement .sspCwpop := by simp only [Statement]; decide
theorem dscLoad (byte : BitVec 8) : Statement (.dscLoad byte) := setWidth_arg_lt byte
theorem dscNext : Statement .dscNext := by simp only [Statement]; decide
theorem dscExpand (byte : BitVec 8) : Statement (.dscExpand byte) := setWidth_arg_lt byte
theorem encStart : Statement .encStart := by simp only [Statement]; decide
theorem encByte (byte : BitVec 8) : Statement (.encByte byte) := setWidth_arg_lt byte
theorem encEnd : Statement .encEnd := by simp only [Statement]; decide
theorem decStart : Statement .decStart := by simp only [Statement]; decide
theorem decFrame : Statement .decFrame := by simp only [Statement]; decide
theorem decBlock : Statement .decBlock := by simp only [Statement]; decide
theorem decEos : Statement .decEos := by simp only [Statement]; decide
theorem csrr (csr : BitVec 4) : Statement (.csrr csr) := (by decide : (0 : Word48).toNat < 2 ^ 0)
theorem csrwGeomW (value : BitVec 12) : Statement (.csrwGeomW value) := setWidth_arg_lt value
theorem csrwGeomH (value : BitVec 12) : Statement (.csrwGeomH value) := setWidth_arg_lt value
theorem csrwGeomB (value : BitVec 12) : Statement (.csrwGeomB value) := setWidth_arg_lt value
theorem csrwClsCtrl (value : BitVec 1) : Statement (.csrwClsCtrl value) := setWidth_arg_lt value
theorem csrwTgtLen (value : BitVec 48) : Statement (.csrwTgtLen value) := value.isLt

end Sys2Proof.Laws.OperandFits
end

