-- ==== Sys2Proof/Tests/Slice0.lean ====
section
/-!
SUPPORT. Small tests. Expected results come from spec/95_test_vectors.md and the worked examples of the rules, and are
named after them (AL, BC, CL, RS, FL, EN and programs P1 to P3 of that file). At the end one witness for every statement
that has hypotheses: a concrete state and operands that meet all of them together, each clause at a boundary value.
-/

namespace Sys2Proof.Tests

open Sys2Proof.Machine

/-! ### Well-formedness: one ill-formed parameter record for each check of R9 -/

theorem test_wf_vectors : (⟨4, 4, 85, 170, 1920, 8⟩ : Params).WellFormed := by decide
theorem test_wf_refuses_K_zero : ¬ (⟨0, 4, 85, 170, 1920, 8⟩ : Params).WellFormed := by decide
theorem test_wf_refuses_P_odd : ¬ (⟨4, 3, 85, 170, 1920, 8⟩ : Params).WellFormed := by decide
theorem test_wf_refuses_N_256 : ¬ (⟨252, 4, 85, 170, 1920, 8⟩ : Params).WellFormed := by decide
theorem test_wf_refuses_T_LO_above_T_HI : ¬ (⟨4, 4, 171, 170, 1920, 8⟩ : Params).WellFormed := by decide
theorem test_wf_refuses_T_HI_256 : ¬ (⟨4, 4, 85, 256, 1920, 8⟩ : Params).WellFormed := by decide
theorem test_wf_refuses_W_REF_zero : ¬ (⟨4, 4, 85, 170, 0, 0⟩ : Params).WellFormed := by decide
theorem test_wf_refuses_W_REF_4096 : ¬ (⟨4, 4, 85, 170, 4096, 8⟩ : Params).WellFormed := by decide
theorem test_wf_refuses_B_REF_zero : ¬ (⟨4, 4, 85, 170, 1920, 0⟩ : Params).WellFormed := by decide
theorem test_wf_refuses_B_REF_above_W_REF : ¬ (⟨4, 4, 85, 170, 8, 9⟩ : Params).WellFormed := by decide

/-! ### Decoding: every constructor from a word written out from R81, R82 and the table of R85 -/

/-- A word decodes to an instruction. -/
def decodesTo (w : Word) (i : Instr) : Bool := decide (decodeTableWord 64 w.toNat = some i)

/-- A word is refused with this reason. -/
def refusedAs (w : Word) (e : DecodeError) : Bool :=
  match decode w with
  | .ok _ => false
  | .error f => decide (f = e)

theorem test_decode_sys : decodesTo 0x0100000000000000 .sysReset ∧ decodesTo 0x0200000000000004 .sysAbortSink ∧
    decodesTo 0x0200000000000005 .sysAbortSource := by decide
theorem test_decode_ace_acd : decodesTo 0x1000000000000006 (.aceColorof 6) ∧
    decodesTo 0x200000000000FFFF (.acdDigitof 0x00FFFF) := by decide
theorem test_decode_bcc_pixel : decodesTo 0x3000000000F01005 (.bccScore 0xF01005) ∧
    decodesTo 0x3100000000F01005 (.bccSnap 0xF01005) ∧ decodesTo 0x320000000010F020 (.bccThresh 0x10F020) := by decide
theorem test_decode_bcc_block : decodesTo 0x3300000000000001 (.bccClsnc 1) ∧
    decodesTo 0x3400000000FFFFFF (.bccClsth 0xFFFFFF) ∧ decodesTo 0x3500000000000002 (.bccClassify 2) := by decide
theorem test_decode_rse : decodesTo 0x4000000000000000 .rseStart ∧ decodesTo 0x410000000000002A (.rseByte 0x2A) ∧
    decodesTo 0x4200000000000003 (.rsePar 3) := by decide
theorem test_decode_rsd : decodesTo 0x5000000000000000 .rsdStart ∧ decodesTo 0x51000000000000E2 (.rsdByte 0xE2) ∧
    decodesTo 0x5200000000000000 (.rsdDecode 0) ∧ decodesTo 0x5200000000000001 (.rsdDecode 1) ∧
    decodesTo 0x5300000000000007 (.rsdRead 7) ∧ decodesTo 0x5400000000000002 (.rsdSynd 2) := by decide
theorem test_decode_flg : decodesTo 0x6000000000000000 .flgBlkcnt ∧ decodesTo 0x6100000000FFE000 (.flgBlkorg 0xFFE000) ∧
    decodesTo 0x6200000000000000 .flgCurrst ∧ decodesTo 0x6300000000000000 .flgCurnext ∧
    decodesTo 0x6400000000000000 .flgRescale := by decide
theorem test_decode_ssp : decodesTo 0x7000000000000000 .sspStart ∧ decodesTo 0x710000000000000D (.sspPush 1 5) ∧
    decodesTo 0x7100000000000006 (.sspPush 0 6) ∧ decodesTo 0x7200000000000001 (.sspCwrd 1) ∧
    decodesTo 0x7300000000000000 .sspCwpop := by decide
theorem test_decode_dsc : decodesTo 0x800000000000002A (.dscLoad 0x2A) ∧ decodesTo 0x8100000000000000 .dscNext ∧
    decodesTo 0x8200000000000007 (.dscExpand 7) := by decide
theorem test_decode_enc : decodesTo 0x9000000000000000 .encStart ∧ decodesTo 0x91000000000000FF (.encByte 0xFF) ∧
    decodesTo 0x9200000000000000 .encEnd := by decide
theorem test_decode_dec : decodesTo 0xA000000000000000 .decStart ∧ decodesTo 0xA100000000000000 .decFrame ∧
    decodesTo 0xA200000000000000 .decBlock ∧ decodesTo 0xA300000000000000 .decEos := by decide
theorem test_decode_csr : decodesTo 0xE700000000000000 (.csrr 7) ∧ decodesTo 0xF20000000000000C (.csrwGeomW 12) ∧
    decodesTo 0xF300000000000FFF (.csrwGeomH 4095) ∧ decodesTo 0xF400000000000002 (.csrwGeomB 2) ∧
    decodesTo 0xF900000000000001 (.csrwClsCtrl 1) ∧ decodesTo 0xFA00FFFFFFFFFFFF (.csrwTgtLen 0xFFFFFFFFFFFF) := by
  decide

/-- EN1 to EN7. -/
theorem test_decode_refuses_unassigned : refusedAs 0x0000000000000000 .unassignedOp ∧
    refusedAs 0x0300000000000000 .unassignedOp ∧ refusedAs 0xB000000000000000 .unassignedOp ∧
    refusedAs 0x6500000000000000 .unassignedOp ∧ refusedAs 0x1001000000000004 .reservedBits ∧
    refusedAs 0x0100000000000001 .operandBits ∧ refusedAs 0x0200000000000003 .abortCode := by decide
/-- EN10 to EN17, AL20, AL21 and the reserved bits of sections 2.5 and 2.6. -/
theorem test_decode_refuses_reserved : refusedAs 0xE000000000000001 .operandBits ∧
    refusedAs 0xF000000000000000 .readOnlyCsr ∧ refusedAs 0xF500000000000001 .readOnlyCsr ∧
    refusedAs 0xF200000000001000 .operandBits ∧ refusedAs 0xF900000000000002 .operandBits ∧
    refusedAs 0xFA01000000000000 .reservedBits ∧ refusedAs 0x9100000000000100 .operandBits ∧
    refusedAs 0x1000000000000008 .operandBits ∧ refusedAs 0x2000000001000000 .operandBits ∧
    refusedAs 0x5200000000000002 .operandBits ∧ refusedAs 0x7100000000000010 .operandBits := by decide

/-! ### States and single steps -/

/-- The parameters of the vectors. -/
def vec : Params := ⟨4, 4, 85, 170, 1920, 8⟩

/-- The block of the vectors after reset. -/
def fresh : State := State.init vec

/-- A state with a geometry. -/
def geom (w h b : Nat) (s : State) : State :=
  { s with geomW := BitVec.ofNat 12 w, geomH := BitVec.ofNat 12 h, geomB := BitVec.ofNat 12 b }

/-- Bytes written as numbers. -/
def bytesOf (l : List Nat) : List Byte := l.map (BitVec.ofNat 8)

/-- A state with a frame loaded. -/
def loaded (l : List Nat) (s : State) : State := { s with frame := Memory.writeFrame [] (bytesOf l) }

/-- The state after the step that takes a word. -/
def after (w : Nat) (s : State) : Option State :=
  match step (s.withFetchWord 64 w) with
  | .next t => some t
  | _ => none

/-- Status and value of the response to a word. -/
def reply (w : Nat) (s : State) : Option (BitVec 4 × Word48) :=
  ((after w s).bind State.response).map fun r => (r.status, r.rsp)

/-- A field of the state after a word. -/
def left {α : Type} (f : State → α) (w : Nat) (s : State) : Option α := (after w s).map f

/-- Frame F1 of section 2.3. -/
def f1 : List Nat :=
  [0x30, 0x20, 0x10, 0xF0, 0x10, 0x05, 0xFF, 0x00, 0xF0, 0xF0, 0x10, 0x05, 0xF0, 0x10, 0x05, 0xF0, 0x10, 0x05] ++
  [0x80, 0x80, 0x80, 0x7F, 0x7F, 0x7F, 0x0A, 0x0A, 0x0A, 0xF0, 0x10, 0x05, 0x80, 0x80, 0x80, 0xF0, 0x10, 0x05] ++
  [0xF5, 0xF5, 0xF5, 0x10, 0x10, 0x10, 0xFF, 0x00, 0xF0, 0xF0, 0x10, 0x05, 0xF0, 0x10, 0x05, 0xF0, 0x10, 0x05]

/-- F1 in its geometry. -/
def onF1 : State := loaded f1 (geom 6 3 3 fresh)

/-- The codeword of the vectors RS5 to RS10. -/
def cw : List Nat := [0x07, 0xFF, 0x00, 0x2A, 0x20, 0x0B, 0xB7, 0x4E]

/-- A full decoder buffer. -/
def rsd (l : List Nat) : State := { fresh with rsdBuf := bytesOf l, rsdCnt := 8 }

/-- R271 on a faulted block; `FRAME` is kept. -/
theorem test_sys_reset : reply 0x0100000000000000 { onF1 with fault := some .unknownColor, finfo := 9 } = some (0, 0) ∧
    left State.statusWord 0x0100000000000000 { onF1 with fault := some .unknownColor, cur := 1 } = some 0x40 ∧
    left State.frame 0x0100000000000000 { onF1 with cur := 1 } = some onF1.frame := by decide +kernel
/-- EN8. -/
theorem test_sys_abort_4 : reply 0x0200000000000004 fresh = some (4, 0) ∧
    left State.fault 0x0200000000000004 fresh = some (some .sinkUnavailable) := by decide
/-- EN9. -/
theorem test_sys_abort_5 : reply 0x0200000000000005 fresh = some (5, 0) ∧
    left State.faultField 0x0200000000000005 fresh = some 5 := by decide
/-- EN5: an illegal word; U5: a faulted block. -/
theorem test_illegal : reply 0x1001000000000004 fresh = some (6, 0) ∧
    left State.finfo 0x1001000000000004 fresh = some 0x10 ∧
    reply 0x1001000000000004 { fresh with fault := some .configError } = some (0xF, 0) := by decide
/-- AL4, AL5. -/
theorem test_ace_colorof : reply 0x1000000000000004 fresh = some (0, 0xFFFF00) ∧
    reply 0x1000000000000005 fresh = some (0, 0x00FFFF) := by decide
/-- AL14, AL16. -/
theorem test_acd_digitof : reply 0x2000000000FF00FF fresh = some (0, 6) ∧
    reply 0x2000000000FE0000 fresh = some (1, 0) ∧ left State.finfo 0x2000000000FE0000 fresh = some 0xFE0000 := by
  decide
/-- BC5, BC6. -/
theorem test_bcc_score : reply 0x300000000001FE80 fresh = some (0, 0x81) ∧
    reply 0x30000000007F80FF fresh = some (0, 0xFE) := by decide
/-- BC12, BC13. -/
theorem test_bcc_snap : reply 0x31000000007F8000 fresh = some (0, 0x00FF00) ∧
    reply 0x310000000080007F fresh = some (0, 0xFF0000) := by decide
/-- BC17 to BC19. -/
theorem test_bcc_thresh : reply 0x32000000005400AB fresh = some (0, 0x00000FF) ∧
    reply 0x32000000005500AB fresh = some (0, 0x1000000) ∧ reply 0x32000000005400AA fresh = some (0, 0x1000000) := by
  decide
/-- CL1, CL2, CL7, CL8. -/
theorem test_bcc_clsnc : reply 0x3300000000000000 onF1 = some (0, 0x0FF00FF) ∧
    reply 0x3300000000000001 onF1 = some (0, 0x0FF0000) ∧ reply 0x3300000000000002 onF1 = some (9, 0) ∧
    reply 0x3300000000000000 fresh = some (8, 0) := by decide +kernel
/-- CL9, CL10: the earlier of two equal scores is kept. -/
theorem test_bcc_clsnc_tie :
    reply 0x3300000000000000 (loaded [127, 0, 0, 128, 0, 0, 128, 128, 128, 128, 128, 128] (geom 2 2 2 fresh)) =
      some (0, 0) ∧
    reply 0x3300000000000000 (loaded [128, 0, 0, 127, 0, 0, 128, 128, 128, 128, 128, 128] (geom 2 2 2 fresh)) =
      some (0, 0xFF0000) := by decide +kernel
/-- CL3, CL4. -/
theorem test_bcc_clsth : reply 0x3400000000000000 onF1 = some (0, 0x1000000) ∧
    reply 0x3400000000000001 onF1 = some (0, 0x0FF0000) := by decide +kernel
/-- CL17, CL18: clipped at the image edges. -/
theorem test_bcc_clsth_clipped :
    let s := loaded ((List.replicate 3 255 ++ List.replicate 3 0 ++ List.replicate 3 255) ++
      (List.replicate 3 0 ++ List.replicate 6 255) ++ List.replicate 9 255) (geom 3 3 1 fresh)
    reply 0x3400000000000001 s = some (0, 0x1000000) ∧ reply 0x3400000000000002 s = some (0, 0x0FFFFFF) := by
  decide +kernel
/-- CL5, CL6. -/
theorem test_bcc_classify : reply 0x3500000000000000 onF1 = some (0, 0x0FF00FF) ∧
    reply 0x3500000000000000 { onF1 with clsCtrl := .thresholded } = some (0, 0x1000000) := by decide +kernel
/-- The examples of R162 to R164. -/
theorem test_field : gfMul 0x80 0x02 = 0x1D ∧ gfMul 0x53 0xCA = 0x8F ∧ gfMul 0xFF 0xFF = 0xE2 ∧ gfInv 0x53 = 0x8C ∧
    gfInv 0xFF = 0xFD ∧ gfMul 0x74 0x08 = 0x87 := by decide +kernel
/-- The coefficients of R166 for P = 2, 4, 6, 8. -/
theorem test_generator : generator 2 = bytesOf [1, 3, 2] ∧ generator 4 = bytesOf [1, 0x0F, 0x36, 0x78, 0x40] ∧
    generator 6 = bytesOf [1, 0x3F, 1, 0xDA, 0x20, 0xE3, 0x26] ∧
    generator 8 = bytesOf [1, 0xFF, 0x0B, 0x51, 0x36, 0xEF, 0xAD, 0xC8, 0x18] := by decide +kernel
/-- RS4a and RS4b by the remainder of R168. -/
theorem test_rs_encode : rsEncode 4 (bytesOf [0x07, 0xFF, 0x00, 0x2A]) = bytesOf cw ∧
    rsEncode 4 (bytesOf [0x07, 0xFF, 0, 0]) = bytesOf [0x07, 0xFF, 0, 0, 0xBB, 0x44, 0x1B, 0x1C] := by decide +kernel
theorem test_rse_start : left State.rseCnt 0x4000000000000000 { fresh with rseCnt := 3, par := bytesOf [1, 2, 3, 4] } =
    some 0 ∧ left State.par 0x4000000000000000 { fresh with par := bytesOf [1, 2, 3, 4] } =
      some (bytesOf [0, 0, 0, 0]) := by decide
/-- RS4a: the shift register after the second byte; a fifth byte faults. -/
theorem test_rse_byte :
    left State.par 0x41000000000000FF { fresh with rseCnt := 1, par := bytesOf [0x2D, 0x82, 0x75, 0xDD] } =
      some (bytesOf [0x58, 0x5D, 0x43, 0xBE]) ∧
    reply 0x41000000000000FF { fresh with rseCnt := 1 } = some (0, 0xFF) ∧
    reply 0x4100000000000000 { fresh with rseCnt := 4 } = some (7, 0) := by decide +kernel
/-- RS3. -/
theorem test_rse_par : reply 0x4200000000000003 { fresh with rseCnt := 4, par := bytesOf [0x54, 0x8C, 0x47, 0x9E] } =
      some (0, 0x9E) ∧
    reply 0x4200000000000004 { fresh with rseCnt := 4 } = some (9, 0) ∧ reply 0x4200000000000000 fresh = some (7, 0) := by
  decide
theorem test_rsd_start : left State.rsdCnt 0x5000000000000000 (rsd cw) = some 0 ∧
    left State.rsdBuf 0x5000000000000000 (rsd cw) = some (bytesOf cw) := by decide
theorem test_rsd_byte : left State.rsdBuf 0x51000000000000E2 { rsd cw with rsdCnt := 6 } =
      some (bytesOf [0x07, 0xFF, 0x00, 0x2A, 0x20, 0x0B, 0xE2, 0x4E]) ∧
    reply 0x5100000000000000 (rsd cw) = some (7, 0) := by decide
/-- RS6: two errors corrected. -/
theorem test_rsd_decode_two_errors :
    reply 0x5200000000000001 (rsd [0x07, 0x3F, 0x00, 0x2A, 0x20, 0x0B, 0xE2, 0x4E]) = some (0, 2) ∧
    left State.rsdBuf 0x5200000000000001 (rsd [0x07, 0x3F, 0x00, 0x2A, 0x20, 0x0B, 0xE2, 0x4E]) = some (bytesOf cw) := by
  decide +kernel
/-- RS7, RS7a, RS8: three errors; the fast path; a miscorrection. -/
theorem test_rsd_decode_three_errors :
    reply 0x5200000000000001 (rsd [0x06, 0x3F, 0x00, 0x2A, 0x20, 0x0B, 0xE2, 0x4E]) = some (2, 0) ∧
    reply 0x5200000000000000 (rsd [0x06, 0x3F, 0x00, 0x2A, 0x20, 0x0B, 0xE2, 0x4E]) = some (0, 0) ∧
    left State.rsdBuf 0x5200000000000001 (rsd [0, 0, 0, 0, 0xD2, 0xB3, 0x69, 0]) =
      some (bytesOf [0x01, 0x09, 0, 0, 0xD2, 0xB3, 0x69, 0]) := by decide +kernel
theorem test_rsd_read : reply 0x5300000000000001 { rsd cw with rsdOk := true } = some (0, 0xFF) ∧
    reply 0x5300000000000008 { rsd cw with rsdOk := true } = some (9, 0) ∧
    reply 0x5300000000000000 (rsd cw) = some (7, 0) := by decide
/-- RS5. -/
theorem test_rsd_synd :
    reply 0x5400000000000002 (rsd [0x07, 0x3F, 0x00, 0x2A, 0x20, 0x0B, 0xB7, 0x4E]) = some (0, 0x77) ∧
    reply 0x5400000000000003 (rsd [0x07, 0x3F, 0x00, 0x2A, 0x20, 0x0B, 0xB7, 0x4E]) = some (0, 0x8C) ∧
    reply 0x5400000000000004 (rsd cw) = some (9, 0) := by decide +kernel
/-- FL1, FL7, FL8. -/
theorem test_flg_blkcnt : reply 0x6000000000000000 (geom 10 7 3 fresh) = some (0, 6) ∧
    reply 0x6000000000000000 (geom 5 5 0 fresh) = some (0, 0) ∧
    reply 0x6000000000000000 (geom 4095 4095 1 fresh) = some (0, 0xFFE001) := by decide
/-- FL3, FL4, FL6, FL8. -/
theorem test_flg_blkorg : reply 0x6100000000000002 (geom 10 7 3 fresh) = some (0, 0x006000) ∧
    reply 0x6100000000000003 (geom 10 7 3 fresh) = some (0, 0x000003) ∧
    reply 0x6100000000000006 (geom 10 7 3 fresh) = some (9, 0) ∧
    reply 0x6100000000FFE000 (geom 4095 4095 1 fresh) = some (0, 0xFFEFFE) := by decide
theorem test_flg_currst : left State.cur 0x6200000000000000 { geom 10 7 3 fresh with cur := 5 } = some 0 := by decide
/-- FL8a, FL8b. -/
theorem test_flg_curnext : reply 0x6300000000000000 { geom 10 7 3 fresh with cur := 5 } = some (0, 0x1000005) ∧
    left State.cur 0x6300000000000000 { geom 10 7 3 fresh with cur := 4 } = some 5 ∧
    reply 0x6300000000000000 (geom 1 1 1 fresh) = some (0, 0x1000000) := by decide
/-- FL9, FL13, FL14. -/
theorem test_flg_rescale : reply 0x6400000000000000 (geom 960 0 0 fresh) = some (0, 4) ∧
    reply 0x6400000000000000 (geom 239 0 7 fresh) = some (8, 0) ∧
    left State.geomB 0x6400000000000000 (geom 239 0 7 fresh) = some 7 ∧
    reply 0x6400000000000000 (geom 11 0 0 (State.init ⟨4, 4, 85, 170, 11, 4⟩)) = some (0, 5) := by decide
theorem test_ssp_start : left State.cwcnt 0x7000000000000000 { fresh with cwcnt := 8, cflag := true } = some 0 ∧
    left State.cflag 0x7000000000000000 { fresh with cwcnt := 8, cflag := true } = some false := by decide
/-- The example of R221, and three sevens. -/
theorem test_ssp_push : reply 0x7100000000000002 { fresh with dcnt := 2, dacc := 5 } = some (0, 0x12A) ∧
    reply 0x7100000000000007 { fresh with dcnt := 2, dacc := 63 } = some (0, 0x1FF) ∧
    reply 0x7100000000000002 { fresh with dcnt := 2, cflag := true } = some (0, 0x502) ∧
    reply 0x7100000000000007 { fresh with dcnt := 2, dacc := 31, cwcnt := 7 } = some (0, 0x3FF) := by decide
/-- `SSP.PUSH 5, 1` ignores the digit; a full codeword refuses a push. -/
theorem test_ssp_push_indet : reply 0x710000000000000D fresh = some (0, 0x400) ∧
    left State.dacc 0x710000000000000D fresh = some 0 ∧ reply 0x7100000000000000 { fresh with cwcnt := 8 } = some (7, 0) := by
  decide
theorem test_ssp_cwrd : reply 0x7200000000000000 { fresh with cwbuf := bytesOf cw, cwcnt := 1 } = some (0, 0x07) ∧
    reply 0x7200000000000001 { fresh with cwbuf := bytesOf cw, cwcnt := 1 } = some (9, 0) := by decide
theorem test_ssp_cwpop : reply 0x7300000000000000 { fresh with cwcnt := 8, cflag := true } = some (0, 1) ∧
    left State.cwidx 0x7300000000000000 { fresh with cwcnt := 8 } = some 1 ∧ reply 0x7300000000000000 fresh = some (7, 0) := by
  decide
theorem test_dsc_load : left State.statusWord 0x800000000000002A fresh = some 0xC40 ∧
    reply 0x800000000000002A { fresh with dscPh := 1 } = some (7, 0) := by decide
/-- The example of R213. -/
theorem test_dsc_next : reply 0x8100000000000000 { fresh with dscByte := 0x2A, dscPh := 3 } = some (0, 0x10) ∧
    reply 0x8100000000000000 { fresh with dscByte := 0x2A, dscPh := 2 } = some (0, 0x0D) ∧
    reply 0x8100000000000000 { fresh with dscByte := 0x2A, dscPh := 1 } = some (0, 0x02) ∧
    reply 0x8100000000000000 fresh = some (7, 0) := by decide
theorem test_dsc_expand : reply 0x82000000000000FF fresh = some (0, 0x0FF) ∧
    reply 0x820000000000002A fresh = some (0, 0x02A) := by decide
/-- R241: the addressable range is blank, what is beyond it is not written. -/
theorem test_enc_start : left (fun s => (s.readByte 0, s.readByte 11, s.readByte 12)) 0x9000000000000000
      { loaded [9, 9, 9, 9, 9, 9, 9, 9, 9, 9, 9, 9, 9] (geom 2 2 2 fresh) with cur := 3 } = some (0, 0, 9) ∧
    reply 0x9000000000000000 fresh = some (8, 0) := by decide +kernel

/-- A block with K = 1 and P = 0. -/
def single : State := State.init ⟨1, 0, 85, 170, 1920, 8⟩

/-- The example of R244: blocks 0, 1, 2 black, cyan, green. -/
theorem test_enc_byte : left (fun s => (s.cur, [s.pixel 2 0, s.pixel 3 1, s.pixel 5 1])) 0x910000000000002A
      (loaded (List.replicate 72 0) (geom 12 2 2 single)) =
    some (3, [⟨0, 255, 255⟩, ⟨0, 255, 255⟩, ⟨0, 255, 0⟩]) := by decide +kernel
/-- Section 2.8: with one block a byte emits three frames. -/
theorem test_enc_byte_emits : ((after 0x910000000000002A (loaded [0, 0, 0] (geom 1 1 1 single))).bind State.response) =
    some ⟨0, 3, [.emitFrame [0, 0, 0], .emitFrame [0, 255, 255], .emitFrame [0, 255, 0]]⟩ := by decide +kernel
/-- Section 2.8: `ENC.END` after one byte of four emits 21 frames; after none it emits nothing. -/
theorem test_enc_end : reply 0x9200000000000000
      { loaded [0, 0, 0] (geom 1 1 1 fresh) with rseCnt := 1, par := bytesOf [0x54, 0x8C, 0x47, 0x9E] } = some (0, 21) ∧
    reply 0x9200000000000000 (geom 1 1 1 fresh) = some (0, 0) ∧
    reply 0x9200000000000000 { geom 1 1 1 fresh with dscPh := 1 } = some (7, 0) := by decide +kernel
/-- P1 of 95_test_vectors.md: after `ENC.END` every register is as after `ENC.START`. -/
theorem test_enc_end_closes : left State.dscByte 0x9200000000000000 { geom 1 1 1 fresh with dscByte := 0x4E } = some 0 ∧
    left State.dscByte 0x9200000000000000 { geom 1 1 1 fresh with rseCnt := 3, par := bytesOf [1, 2, 3, 4] } = some 0 := by
  decide +kernel
/-- Section 2.8. -/
theorem test_dec_start : reply 0xA000000000000000 (geom 12 4 2 fresh) = some (7, 0) ∧
    left State.statusWord 0xA000000000000000 { geom 12 4 2 fresh with lenSet := true } = some 0x2040 ∧
    reply 0xA000000000000000 fresh = some (8, 0) := by decide
theorem test_dec_frame : left State.frameValid 0xA100000000000000 (geom 12 4 2 fresh) = some true ∧
    reply 0xA100000000000000 { geom 12 4 2 fresh with frameValid := true } = some (7, 0) := by decide

/-- A decode session on frame F1: two payload bytes wanted, the packer as given. -/
def decoding (cwcnt : BitVec 8) (dcnt : BitVec 2) (dacc : BitVec 6) (buf : List Nat) : State :=
  { onF1 with
    tgtLen := 2, lenSet := true, frameValid := true, cwcnt := cwcnt, dcnt := dcnt, dacc := dacc, cwbuf := bytesOf buf }

/-- Block 0 of F1 is magenta, digit 6; block 1 is red and the last of the frame. -/
theorem test_dec_block : left (fun s => (s.dacc, s.dcnt, s.cur)) 0xA200000000000000 (decoding 0 1 3 cw) = some (30, 2, 1) ∧
    reply 0xA200000000000000 { decoding 0 1 3 cw with cur := 1 } = some (0, 1) ∧
    reply 0xA200000000000000 { decoding 0 1 3 cw with clsCtrl := .thresholded } = some (0, 4) ∧
    reply 0xA200000000000000 { decoding 0 1 3 cw with outCnt := 2 } = some (0, 2) ∧
    reply 0xA200000000000000 { decoding 0 1 3 cw with frameValid := false } = some (7, 0) := by decide +kernel
/-- The last digit completes the codeword: digits 1 1 6 make its last byte 0x4E. The two bytes wanted are output. -/
theorem test_dec_block_codeword : ((after 0xA200000000000000 (decoding 7 2 9 [7, 255, 0, 0x2A, 0x20, 0x0B, 0xB7, 0])).bind
      State.response) = some ⟨0, 0x202, [.outByte 0x07, .outByte 0xFF]⟩ ∧
    left State.rsdBuf 0xA200000000000000
      { decoding 7 2 9 [7, 0xC7, 0, 0x2A, 0x20, 0x0B, 0xB7, 0] with cflag := true } = some (bytesOf cw) ∧
    reply 0xA200000000000000 { decoding 7 2 9 [6, 0x3F, 0, 0x2A, 0x20, 0x0B, 0xE2, 0] with cflag := true, cwidx := 5 } =
      some (2, 0) := by decide +kernel
theorem test_dec_eos : reply 0xA300000000000000 { fresh with tgtLen := 4, outCnt := 3 } = some (3, 0) ∧
    left State.finfo 0xA300000000000000 { fresh with tgtLen := 4, outCnt := 3 } = some 3 ∧
    reply 0xA300000000000000 fresh = some (0, 0) := by decide
/-- EN18, EN19 and the example of R274. -/
theorem test_csrr : reply 0xE000000000000000 fresh = some (0, 0x40) ∧ reply 0xED00000000000000 fresh = some (0, 0x080404) ∧
    reply 0xEE00000000000000 fresh = some (0, 0xAA55) ∧ reply 0xEF00000000000000 fresh = some (0, 0x780008) ∧
    reply 0xE700000000000000 (geom 10 7 3 fresh) = some (0, 6) := by decide
/-- FL8c: a geometry write restarts the cursor. -/
theorem test_csrw_geom : left State.cur 0xF300000000000007 { geom 10 7 3 fresh with cur := 1 } = some 0 ∧
    left State.geomW 0xF20000000000000C fresh = some 12 ∧ left State.geomB 0xF400000000000002 fresh = some 2 ∧
    reply 0xF200000000001000 fresh = some (6, 0) := by decide
/-- EN15. -/
theorem test_csrw_len_strategy : left State.statusWord 0xFA00FFFFFFFFFFFF fresh = some 0x2000 ∧
    left State.clsCtrl 0xF900000000000001 fresh = some .thresholded := by decide
/-- The state after reset takes a command, whatever the OPEN parameters are. -/
theorem test_from_reset : left State.geomW 0xF20000000000000C State.reset = some 12 ∧
    reply 0x9000000000000000 State.reset = some (8, 0) := by decide
/-- A host load writes the addressable range; a wrong raster is refused. -/
theorem test_host_load : (match step { geom 1 1 1 fresh with inbox := [.loadFrame [1, 2, 3]] } with
      | .next t => decide (t.frame = [(0, 1), (1, 2), (2, 3)])
      | _ => false) = true ∧
    (match step { geom 1 1 1 fresh with inbox := [.loadFrame [1, 2]] } with
      | .refused r => decide (r = .rasterSize)
      | _ => false) = true := by decide

/-! ### Witnesses -/

/-- The invariant as one computation. -/
def invCheck (s : State) : Bool :=
  decide s.cfg.WellFormed && Memory.wf s.frame && decide (s.par.length = s.cfg.P) && decide (s.cwbuf.length = s.cfg.N) &&
  decide (s.rsdBuf.length = s.cfg.N) && decide (s.rseCnt.toNat ≤ s.cfg.K) &&
  decide (s.rseCnt = 0 → s.par = List.replicate s.cfg.P 0) && decide (s.cwcnt.toNat ≤ s.cfg.N) &&
  decide (s.rsdCnt.toNat ≤ s.cfg.N) && decide (s.dcnt.toNat ≤ 2) && decide (s.dacc.toNat < 8 ^ s.dcnt.toNat) &&
  decide (s.cwcnt.toNat = s.cfg.N → s.dcnt = 0) && decide (0 < s.cnt → s.cur.toNat < s.cnt) &&
  decide (s.cnt = 0 → s.cur = 0) && decide (s.frameValid = true → 0 < s.cnt) &&
  decide (s.rsdOk = true → s.rsdCnt.toNat = s.cfg.N) && decide (s.fault = none → s.finfo = 0) && decide (s.response = none)

theorem inv_of_check {s : State} (h : invCheck s = true) : Inv s := by
  simp only [invCheck, Bool.and_eq_true, decide_eq_true_eq] at h
  obtain ⟨⟨⟨⟨⟨⟨⟨⟨⟨⟨⟨⟨⟨⟨⟨⟨⟨h1, h2⟩, h3⟩, h4⟩, h5⟩, h6⟩, hp⟩, h7⟩, h8⟩, h9⟩, h10⟩, h11⟩, h12⟩, h13⟩, h14⟩, h15⟩, h16⟩, h17⟩ := h
  exact ⟨h1, h2, h3, h4, h5, h6, hp, h7, h8, h9, h10, h11, h12, h13, h14, h15, h16, fun r hr => by rw [h17] at hr; cases hr⟩

/-- A faulted block. -/
def faulted : State := { fresh with fault := some .configError, finfo := 0x90 }

/-- A block that is asked for one thing. -/
def asked (a : HostAction) (s : State) : State := { s with inbox := [a] }

/-- The outcome is a next state. -/
def completes : Host.Outcome State Fault Refusal → Bool
  | .next _ => true
  | _ => false

theorem next_of_completes {o : Host.Outcome State Fault Refusal} (h : completes o = true) : ∃ t, o = .next t := by
  cases o with
  | next t => exact ⟨t, rfl⟩
  | fault _ => cases h
  | refused _ => cases h

theorem inv_fresh : Inv fresh := inv_of_check (by decide)
theorem inv_onF1 : Inv onF1 := inv_of_check (by decide +kernel)

theorem witness_EncodeDecodeRoundTrip : decode 0x710000000000000F = .ok (.sspPush 1 7) := rfl
theorem witness_DecoderFollowsOpcodeTable : ∃ row ∈ opcodeRows, (0xFA00FFFFFFFFFFFF : Word) &&& row.mask = row.pattern := by
  decide
theorem witness_StepRunsDecodedCommand : (asked (.command 0xA200000000000000) fresh).inbox = [.command 0xA200000000000000] ∧
    decode 0xA200000000000000 = .ok .decBlock ∧ fresh.inbox = [] := ⟨rfl, rfl, rfl⟩
theorem witness_IllegalCommandsFault : (asked (.command 0x1000000000000008) fresh).inbox = [.command 0x1000000000000008] ∧
    decode 0x1000000000000008 = .error .operandBits ∧ fresh.fault = none := ⟨rfl, rfl, rfl⟩
theorem witness_FaultedBlockRefuses : faulted.fault ≠ none ∧ decode 0x0100000000000000 = .ok .sysReset ∧
    decode 0xEF00000000000000 = .ok (.csrr 15) ∧ decode 0x0100000000000001 = .error .operandBits := by
  refine ⟨by decide, rfl, rfl, rfl⟩
theorem witness_FaultEntryIsAtomic : fresh.fault = none ∧
    ∃ t, step (asked (.command 0x0200000000000004) fresh) = .next t ∧ t.fault ≠ none ∧
      ∃ r, t.response = some r ∧ r.status ≠ 0 := ⟨rfl, _, rfl, by decide, _, rfl, by decide⟩
theorem witness_StepKeepsTheMachineWellFormed : Inv (asked (.command 0xF20000000000000C) fresh) ∧
    ∃ t, step (asked (.command 0xF20000000000000C) fresh) = .next t := ⟨inv_of_check (by decide), _, rfl⟩
theorem witness_ResetMeetsTheInvariant : vec.WellFormed ∧ (⟨255, 0, 0, 255, 4095, 4095⟩ : Params).WellFormed := by decide
theorem witness_EveryCommandIsAnswered : Inv (asked (.command 0x9200000000000000) onF1) := inv_of_check (by decide +kernel)
theorem witness_OnlyResetLeavesTheFaultedState : faulted.fault ≠ none ∧
    (∃ t, step (asked (.command 0x4000000000000000) faulted) = .next t ∧ t.fault = faulted.fault) ∧
    (∃ t, step (asked (.command 0x0100000000000000) faulted) = .next t ∧ t.fault = none) ∧
    ∃ t, step (asked .hardwareReset faulted) = .next t ∧ t.fault = none :=
  ⟨by decide, ⟨_, rfl, rfl⟩, ⟨_, rfl, rfl⟩, ⟨_, rfl, rfl⟩⟩
theorem witness_OnlyEncodeCommandsWriteFrame : (∃ t, exec .sysReset onF1 = .next t) ∧ writesFrame .sysReset = false ∧
    (∃ t, exec .encStart onF1 = .next t) ∧ 0 < onF1.cnt ∧ onF1.cur.toNat < onF1.cnt :=
  ⟨⟨_, rfl⟩, rfl, next_of_completes (by decide +kernel), by decide, by decide⟩
theorem witness_OnlyListedCommandsWriteRegisters : Instr.sspStart ≠ .sysReset ∧
    ∃ t, exec .sspStart { fresh with dacc := 5 } = .next t ∧ t.dacc ≠ 5 := ⟨by decide, _, rfl, by decide⟩
theorem witness_OutputCounterCountsOutBytes : (Instr.decBlock ≠ .sysReset ∧ Instr.decBlock ≠ .decStart) ∧
    (∃ t, exec .decBlock (decoding 7 2 9 [7, 255, 0, 0x2A, 0x20, 0x0B, 0xB7, 0]) = .next t) ∧
    ∃ t, exec .decStart { onF1 with lenSet := true } = .next t :=
  ⟨by decide, next_of_completes (by decide +kernel), next_of_completes (by decide +kernel)⟩
theorem witness_SystemResetClearsTheRegisters : faulted.cfg.WellFormed ∧ opOf 0x0100000000000001 = 0x01 ∧
    opOf 0x0180000000000000 = 0x01 := by decide
theorem witness_HardwareResetClearsTheBlock : (asked .hardwareReset faulted).inbox = [.hardwareReset] := rfl
theorem witness_SystemAbortFaults : (3 : Word48) ≠ 4 ∧ (3 : Word48) ≠ 5 ∧ fresh.fault = none := by decide
theorem witness_CsrReadsGiveTheirValues : onF1.cfg.WellFormed := by decide
theorem witness_StatusFieldsReadTheRegisters : fresh.fault = none ∧ faulted.fault = some .configError := by decide
theorem witness_CsrWritesTakeEffect : fresh.fault = none ∧
    decode (commandWord (0xF0 + (2 : BitVec 4).setWidth 8) 4096) = .error .operandBits ∧
    decode (commandWord (0xF0 + (15 : BitVec 4).setWidth 8) 0) = .error .readOnlyCsr := ⟨rfl, rfl, rfl⟩
theorem witness_HostLoadWritesTheFrame : ([1, 2, 3] : List Byte).length =
      3 * (geom 1 1 1 fresh).geomW.toNat * (geom 1 1 1 fresh).geomH.toNat ∧
    ([1, 2] : List Byte).length ≠ 3 * (geom 1 1 1 fresh).geomW.toNat * (geom 1 1 1 fresh).geomH.toNat := by decide
theorem witness_AlphabetCommandsUseTheTable : fresh.fault = none ∧
    (0xFE0000 : BitVec 24) ∉ ([0x000000, 0xFF0000, 0x00FF00, 0x0000FF, 0xFFFF00, 0x00FFFF, 0xFF00FF, 0xFFFFFF] :
      List (BitVec 24)) := by decide
theorem witness_AlphabetIsABijection : Color.IsCorner ⟨0, 255, 255⟩ := ⟨.inl rfl, .inr rfl, .inr rfl⟩
theorem witness_PixelCommandsCompute : fresh.fault = none ∧ fresh.cfg.WellFormed ∧ fresh.cfg.tLo ≤ 0x55 ∧
    0xAA ≤ fresh.cfg.tHi ∧ ¬ (fresh.cfg.tLo ≤ 0x54) ∧ ¬ (0xAB ≤ fresh.cfg.tHi) := by decide
theorem witness_BlockCommandsClassify : onF1.fault = none ∧ (1 : BitVec 24).toNat < onF1.cnt ∧ fresh.cnt = 0 ∧
    0 < onF1.cnt ∧ onF1.cnt ≤ (2 : BitVec 24).toNat := by decide
theorem witness_NearestCornerKeepsTheFirstMinimum : 1 < onF1.cnt := by decide
theorem witness_ThresholdUsesTheClippedNeighbourhood : 1 < onF1.cnt ∧ 3 ≤ onF1.geomB.toNat ∧
    onF1.classifyThreshold 0 = .indeterminate ∧ onF1.classifyThreshold 1 = .resolved ⟨255, 0, 0⟩ := by decide +kernel
theorem witness_UndistortedBlocksResolve :
    let s := loaded (List.replicate 27 255) (geom 3 3 3 fresh)
    0 < s.cnt ∧ (∀ q ∈ s.blockPixels 0, s.pixel q.1 q.2 = ⟨255, 255, 255⟩) ∧ 3 ≤ s.geomB.toNat ∧ 1 ≤ s.cfg.tLo ∧
      s.cfg.tHi ≤ 254 ∧ s.cfg.WellFormed := by decide +kernel
theorem witness_ResolvedColoursAreCorners : onF1.classifyNearest 0 = .resolved ⟨255, 0, 255⟩ ∧
    onF1.classifyThreshold 1 = .resolved ⟨255, 0, 0⟩ := by decide +kernel
theorem witness_BytesFormTheField : (0x53 : Byte) ≠ 0 ∧ gfMul 0x53 0x8C = 1 := by decide +kernel
theorem witness_AlphaIsPrimitive : (254 : Nat) < 255 ∧ (0x8E : Byte) ≠ 0 := by decide
theorem witness_CodewordsAreFarApart : (bytesOf cw).length = (List.replicate 8 (0 : Byte)).length ∧
    (bytesOf cw).length ≤ 255 ∧ isCodeword 4 (bytesOf cw) = true ∧ isCodeword 4 (List.replicate 8 0) = true ∧
    bytesOf cw ≠ List.replicate 8 0 := by decide +kernel
theorem witness_EncoderUnitCommands : fresh.fault = none ∧ fresh.par.length = fresh.cfg.P ∧
    ({ fresh with rseCnt := 3 } : State).rseCnt.toNat ≠ fresh.cfg.K ∧
    ({ fresh with rseCnt := 4 } : State).rseCnt.toNat = fresh.cfg.K ∧ (3 : Byte).toNat < fresh.cfg.P ∧
    fresh.cfg.P ≤ (4 : Byte).toNat := by decide
theorem witness_ShiftRegisterComputesTheParity : Inv fresh ∧ fresh.fault = none ∧
    (bytesOf [7, 255, 0, 42]).length = fresh.cfg.K := ⟨inv_fresh, rfl, rfl⟩
theorem witness_EncodingIsSystematicAndUnique : (List.replicate 251 (7 : Byte)).length + 4 ≤ 255 := by
  rw [List.length_replicate]
theorem witness_DecoderUnitCommands : Inv fresh ∧ (rsd cw).fault = none ∧ (rsd cw).rsdCnt.toNat = (rsd cw).cfg.N ∧
    fresh.rsdCnt.toNat ≠ fresh.cfg.N ∧ ({ rsd cw with rsdOk := true } : State).rsdOk = true ∧ fresh.rsdOk = false ∧
    (7 : Byte).toNat < fresh.cfg.N ∧ fresh.cfg.N ≤ (8 : Byte).toNat ∧ (3 : Byte).toNat < fresh.cfg.P ∧
    fresh.cfg.P ≤ (4 : Byte).toNat ∧ (bytesOf cw).length = fresh.cfg.N := ⟨inv_fresh, by decide⟩
theorem witness_DecodeCommandCorrectsOrFaults : fresh.fault = none ∧ fresh.rsdCnt.toNat ≠ fresh.cfg.N ∧
    (rsd cw).rsdCnt.toNat = (rsd cw).cfg.N ∧ isCodeword 4 (rsd cw).rsdBuf = true ∧
    rsCorrect 4 (bytesOf [7, 0x3F, 0, 0x2A, 0x20, 0x0B, 0xB7, 0x4E]) = some (bytesOf cw) ∧
    rsCorrect 4 (bytesOf [6, 0x3F, 0, 0x2A, 0x20, 0x0B, 0xE2, 0x4E]) = none ∧ single.cfg.P = 0 := by decide +kernel
theorem witness_CorrectionIsBoundedDistance : (List.replicate 255 (0 : Byte)).length ≤ 255 := by
  rw [List.length_replicate]
theorem witness_ReferenceAlgorithmAgrees : 4 % 2 = 0 ∧ (bytesOf cw).length ≤ 255 ∧
    rsReference 4 (bytesOf [7, 0x3F, 0, 0x2A, 0x20, 0x0B, 0xE2, 0x4E]) = some (bytesOf cw) ∧
    rsReference 4 (bytesOf [6, 0x3F, 0, 0x2A, 0x20, 0x0B, 0xE2, 0x4E]) = none := by decide +kernel
theorem witness_LayoutCommandsCompute : fresh.fault = none ∧ (5 : BitVec 24).toNat < (geom 10 7 3 fresh).cnt ∧
    (geom 10 7 3 fresh).cnt ≤ (6 : BitVec 24).toNat ∧ fresh.cnt = 0 ∧
    ({ geom 10 7 3 fresh with cur := 5 } : State).cur.toNat + 1 = (geom 10 7 3 fresh).cnt ∧
    ({ geom 10 7 3 fresh with cur := 4 } : State).cur.toNat + 1 ≠ (geom 10 7 3 fresh).cnt := by decide
theorem witness_RescaleDerivesTheBlockSide : fresh.fault = none ∧ fresh.cfg.WellFormed ∧
    (geom 239 0 0 fresh).geomW.toNat / (1920 / 8) = 0 ∧ (geom 240 0 0 fresh).geomW.toNat / (1920 / 8) ≠ 0 := by decide
theorem witness_BlocksTileTheFrame : 16769024 < (geom 4095 4095 1 fresh).cnt ∧ 5 < (geom 10 7 3 fresh).cnt := by decide
theorem witness_DigitConverterCommands : fresh.fault = none ∧ fresh.dscPh = 0 ∧
    ({ fresh with dscPh := 1 } : State).dscPh ≠ 0 ∧ ({ fresh with dscPh := 3 } : State).dscPh ≠ 0 := by decide
theorem witness_PackerCommands : Inv { fresh with cwcnt := 8 } ∧ fresh.fault = none ∧
    (7 : Byte).toNat < ({ fresh with cwcnt := 8 } : State).cwcnt.toNat ∧ fresh.cwcnt.toNat ≤ (0 : Byte).toNat ∧
    ({ fresh with cwcnt := 8 } : State).cwcnt.toNat = fresh.cfg.N ∧ fresh.cwcnt.toNat ≠ fresh.cfg.N :=
  ⟨inv_of_check (by decide), by decide⟩
theorem witness_PushTakesOneDigit : fresh.fault = none ∧ ({ fresh with cwcnt := 8 } : State).cwcnt.toNat = fresh.cfg.N ∧
    ({ fresh with cwcnt := 7 } : State).cwcnt.toNat ≠ fresh.cfg.N ∧ ({ fresh with dcnt := 1 } : State).dcnt.toNat < 2 ∧
    2 ≤ ({ fresh with dcnt := 2 } : State).dcnt.toNat ∧
    ∃ t, exec .sspStart { fresh with cflag := true } = .next t ∧ t.cflag = false :=
  ⟨by decide, by decide, by decide, by decide, by decide, _, rfl, rfl⟩
theorem witness_PackingInvertsTheExpansion : Inv fresh ∧ fresh.fault = none ∧ fresh.dcnt = 0 ∧ fresh.cwcnt = 0 ∧
    fresh.cflag = false ∧ (bytesOf cw).length = fresh.cfg.N := ⟨inv_fresh, by decide⟩
theorem witness_EncodeStartBlanksTheFrame : onF1.fault = none ∧ fresh.cnt = 0 ∧ 0 < onF1.cnt := by decide
theorem witness_EncodeByteAdvancesTheSession : Inv { onF1 with rseCnt := 3, cur := 1 } ∧ onF1.fault = none ∧ 0 < onF1.cnt ∧
    onF1.dscPh = 0 ∧ ({ onF1 with rseCnt := 3 } : State).rseCnt.toNat ≠ onF1.cfg.K ∧
    ({ onF1 with rseCnt := 4 } : State).rseCnt.toNat = onF1.cfg.K ∧ ({ onF1 with dscPh := 1 } : State).dscPh ≠ 0 ∧
    fresh.cnt = 0 := ⟨inv_of_check (by decide +kernel), by decide⟩
theorem witness_EncodeBytePaintsThreeBlocks : Inv { geom 10 7 3 fresh with cur := 2, rseCnt := 2 } ∧ fresh.dscPh = 0 ∧
    (2 : BitVec 8).toNat + 1 < vec.K ∧ (2 : BitVec 24).toNat + 3 < (geom 10 7 3 fresh).cnt :=
  ⟨inv_of_check (by decide), by decide⟩
theorem witness_EncodeEndFlushesTheSession : Inv { onF1 with rseCnt := 3, cur := 1 } ∧ Inv onF1 ∧ onF1.fault = none ∧
    0 < onF1.cnt ∧ onF1.dscPh = 0 ∧ onF1.rseCnt.toNat ≠ onF1.cfg.K ∧ onF1.rseCnt = 0 ∧
    ({ onF1 with rseCnt := 3 } : State).rseCnt ≠ 0 := ⟨inv_of_check (by decide +kernel), inv_onF1, by decide⟩
theorem witness_EncodeSessionEmitsThePaintedFrames : Inv onF1 ∧ onF1.fault = none ∧ 0 < onF1.cnt :=
  ⟨inv_onF1, by decide⟩
theorem witness_DecodeSessionCommands : onF1.fault = none ∧ fresh.cnt = 0 ∧ 0 < onF1.cnt ∧ onF1.lenSet = false ∧
    (decoding 0 0 0 cw).lenSet = true ∧ (decoding 0 0 0 cw).frameValid = true ∧ onF1.frameValid = false ∧
    ({ fresh with tgtLen := 4, outCnt := 3 } : State).outCnt.toNat < 4 ∧ fresh.tgtLen.toNat ≤ fresh.outCnt.toNat ∧
    (onF1.frameValid = false → onF1.cur = 0) := by decide
theorem witness_DecodeBlockPacksOneDigit : Inv (decoding 6 2 9 cw) ∧ Inv (decoding 7 1 3 cw) ∧
    (decoding 6 2 9 cw).fault = none ∧ 0 < (decoding 6 2 9 cw).cnt ∧
    (decoding 6 2 9 cw).outCnt.toNat < (decoding 6 2 9 cw).tgtLen.toNat ∧ (decoding 6 2 9 cw).frameValid = true ∧
    (decoding 6 2 9 cw).cwcnt.toNat + 1 ≠ (decoding 6 2 9 cw).cfg.N ∧ BlockReads (decoding 6 2 9 cw) 6 false ∧
    BlockReads { decoding 6 2 9 cw with clsCtrl := .thresholded } 0 true :=
  ⟨inv_of_check (by decide +kernel), inv_of_check (by decide +kernel), by decide, by decide, by decide, by decide, by decide,
    .inr ⟨⟨255, 0, 255⟩, by decide +kernel, by decide, rfl⟩, .inl ⟨by decide +kernel, rfl, rfl⟩⟩
/-- A decode session one digit before the end of a codeword, flagged or not. -/
def lastDigit (flag : Bool) (buf : List Nat) : State := { decoding 7 2 9 buf with cflag := flag }

theorem lastDigit_meets (flag : Bool) (buf : List Nat) (h : Inv (lastDigit flag buf)) :
    let s := lastDigit flag buf
    Inv s ∧ s.fault = none ∧ 0 < s.cnt ∧ s.outCnt.toNat < s.tgtLen.toNat ∧ s.frameValid = true ∧ BlockReads s 6 false ∧
    s.dcnt.toNat = 2 ∧ s.cwcnt.toNat + 1 = s.cfg.N :=
  ⟨h, rfl, (by decide : 0 < onF1.cnt), (by decide : (0 : Word48).toNat < (2 : Word48).toNat), rfl,
    .inr ⟨⟨255, 0, 255⟩, (by decide +kernel : onF1.classify 0 = .resolved ⟨255, 0, 255⟩), by decide, rfl⟩, rfl, rfl⟩

/-- The word that the last digit completes. -/
def lastWord (s : State) : List Byte := s.cwbuf.set s.cwcnt.toNat (BitVec.ofNat 8 (8 * s.dacc.toNat + 6))

theorem witness_DecodeBlockOutputsACodeword :
    Inv (lastDigit false [7, 255, 0, 0x2A, 0x20, 0x0B, 0xB7, 0]) ∧
    Inv (lastDigit true [7, 0xC7, 0, 0x2A, 0x20, 0x0B, 0xB7, 0]) ∧
    rsCorrect 4 (lastWord (lastDigit true [7, 0xC7, 0, 0x2A, 0x20, 0x0B, 0xB7, 0])) = some (bytesOf cw) ∧
    Inv (lastDigit true [6, 0x3F, 0, 0x2A, 0x20, 0x0B, 0xE2, 0]) ∧
    rsCorrect 4 (lastWord (lastDigit true [6, 0x3F, 0, 0x2A, 0x20, 0x0B, 0xE2, 0])) = none :=
  ⟨inv_of_check (by decide +kernel), inv_of_check (by decide +kernel), by decide +kernel,
    inv_of_check (by decide +kernel), by decide +kernel⟩
theorem witness_DecodeInvertsEncode : Inv fresh ∧ fresh.fault = none ∧
    0 < (16 : BitVec 12).toNat / (3 : BitVec 12).toNat * ((7 : BitVec 12).toNat / (3 : BitVec 12).toNat) ∧
    (bytesOf [7, 255]).length < 2 ^ 48 ∧ 3 ≤ (3 : BitVec 12).toNat ∧ 1 ≤ vec.tLo ∧ vec.tHi ≤ 254 :=
  ⟨inv_fresh, by decide⟩
theorem witness_EncodeEndRestoresTheStartState : Inv onF1 ∧ onF1.fault = none ∧ 0 < onF1.cnt := ⟨inv_onF1, by decide⟩

end Sys2Proof.Tests
end

section
/-!
The fields of `STATUS` (spec/10_state.md R30): where each stands in the word, the value after reset, and that the
register takes no write.
-/

namespace Sys2Proof.Machine

/-! ### Reading a part of a response value -/

theorem getLsbD_field {n i : Nat} (v : BitVec n) (h : i < 48) : (field v).getLsbD i = v.getLsbD i := by
  simp [field, h]

theorem extractLsb'_field {n start len : Nat} (v : BitVec n) (h : start + len ≤ 48) :
    (field v).extractLsb' start len = v.extractLsb' start len :=
  BitVec.extractLsb'_setWidth_of_le h

/-- The bits above a field read as 0. -/
theorem extractLsb'_field_of_le {n start : Nat} (len : Nat) (v : BitVec n) (h : n ≤ start) :
    (field v).extractLsb' start len = 0 := by
  ext i hi
  have hv : v.getLsbD (start + i) = false := BitVec.getLsbD_of_ge v _ (by omega)
  simp [field, hv]

theorem getLsbD_append_of_lt {n m i : Nat} (hi : BitVec n) (lo : BitVec m) (h : i < m) :
    (hi ++ lo).getLsbD i = lo.getLsbD i := by
  rw [BitVec.getLsbD_append, if_pos h]

/-- A flag put on top of `m` bits is bit `m`. -/
theorem getLsbD_bit_append {m i : Nat} (b : Bool) (lo : BitVec m) (h : i = m) : (bit b ++ lo).getLsbD i = b := by
  rw [BitVec.getLsbD_append, if_neg h.not_lt, h, Nat.sub_self]
  simp [bit]

/-! ### The derived fields -/

theorem faultField_of_none {s : State} (h : s.fault = none) : s.faultField = 0 := by
  rw [State.faultField, h]

theorem faultField_of_some {s : State} {kind : FaultKind} (h : s.fault = some kind) :
    s.faultField = faultCode kind := by
  rw [State.faultField, h]

variable (s : State)

theorem done_iff : s.done = true ↔ s.tgtLen.toNat ≤ s.outCnt.toNat := decide_eq_true_iff

theorem cwFull_iff : s.cwFull = true ↔ s.cwcnt.toNat = s.cfg.N := decide_eq_true_iff

/-! ### Each field at its bits

The word is nested to the right, so a field is reached by dropping the fields above it. -/

theorem csrValue_status : csrValue 0 s = s.statusWord := rfl

theorem statusWord_fault : s.statusWord.extractLsb' 0 4 = s.faultField := by
  simp (disch := omega) only [State.statusWord, extractLsb'_field, BitVec.extractLsb'_append_eq_of_add_le]
  exact BitVec.extractLsb'_eq_self

theorem statusWord_frameValid : s.statusWord.getLsbD 4 = s.frameValid := by
  simp (disch := omega) only [State.statusWord, getLsbD_field, getLsbD_append_of_lt, getLsbD_bit_append]

theorem statusWord_cflag : s.statusWord.getLsbD 5 = s.cflag := by
  simp (disch := omega) only [State.statusWord, getLsbD_field, getLsbD_append_of_lt, getLsbD_bit_append]

theorem statusWord_done : s.statusWord.getLsbD 6 = s.done := by
  simp (disch := omega) only [State.statusWord, getLsbD_field, getLsbD_append_of_lt, getLsbD_bit_append]

theorem statusWord_cwFull : s.statusWord.getLsbD 7 = s.cwFull := by
  simp (disch := omega) only [State.statusWord, getLsbD_field, getLsbD_append_of_lt, getLsbD_bit_append]

theorem statusWord_dcnt : s.statusWord.extractLsb' 8 2 = s.dcnt := by
  simp (disch := omega) only [State.statusWord, extractLsb'_field, BitVec.extractLsb'_append_eq_of_add_le]
  exact BitVec.extractLsb'_append_eq_left

theorem statusWord_dscPh : s.statusWord.extractLsb' 10 2 = s.dscPh := by
  simp (disch := omega) only [State.statusWord, extractLsb'_field, BitVec.extractLsb'_append_eq_of_add_le]
  exact BitVec.extractLsb'_append_eq_left

theorem statusWord_rsdOk : s.statusWord.getLsbD 12 = s.rsdOk := by
  simp (disch := omega) only [State.statusWord, getLsbD_field, getLsbD_append_of_lt, getLsbD_bit_append]

theorem statusWord_lenSet : s.statusWord.getLsbD 13 = s.lenSet := by
  simp (disch := omega) only [State.statusWord, getLsbD_field, getLsbD_bit_append]

theorem statusWord_reserved : s.statusWord.extractLsb' 14 34 = 0 := extractLsb'_field_of_le 34 _ (by omega)

/-! ### Reset and writes -/

theorem csrValue_status_reset : csrValue 0 State.reset = 0x40 := by decide

/-- `CSRW 0` is in no row of R85, whatever the value. -/
theorem decode_write_status (arg : Word48) : decode (commandWord 0xF0 arg) = .error .readOnlyCsr := by
  rw [decode_commandWord]
  rfl

/-- Settles O21, field by field. -/
theorem statusFieldsReadTheRegisters : Obligations.StatusFieldsReadTheRegisters := by
  refine ⟨fun s => ?_, csrValue_status_reset, decode_write_status⟩
  rw [csrValue_status]
  exact ⟨fun hnone => (statusWord_fault s).trans (faultField_of_none hnone),
    fun kind hsome => (statusWord_fault s).trans (faultField_of_some hsome),
    statusWord_frameValid s, statusWord_cflag s,
    by rw [statusWord_done]; exact done_iff s,
    by rw [statusWord_cwFull]; exact cwFull_iff s,
    statusWord_dcnt s, statusWord_dscPh s, statusWord_rsdOk s, statusWord_lenSet s, statusWord_reserved s⟩

end Sys2Proof.Machine
end

section
/-!
The illegal words of spec/30_encoding.md R86: `decode` refuses exactly the words outside the table of R85
(`LegalFields`), and a running block answers such a word with the fault entry of R296.
-/

namespace Sys2Proof

theorem noOperand_zero (i : Instr) : noOperand 0 i = .ok i := noOperand_eq_ok.mpr ⟨rfl, rfl⟩

theorem withOperand_of_lt {n : Nat} {arg : Word48} (h : arg.toNat < 2 ^ n) (mk : BitVec n → Instr) :
    withOperand n arg mk = .ok (mk (arg.setWidth n)) := withOperand_eq_ok.mpr ⟨h, rfl⟩

/-- The high digit `E` selects the sixteen `op` bytes of `CSRR` (R85). -/
theorem csrr_op_iff (op : BitVec 8) : op.extractLsb' 4 4 = 0xE#4 ↔ 0xE0 ≤ op.toNat ∧ op.toNat ≤ 0xEF := by
  have hop := op.isLt
  rw [← BitVec.toNat_inj, BitVec.extractLsb'_toNat, Nat.shiftRight_eq_div_pow, BitVec.toNat_ofNat]
  omega

end Sys2Proof

namespace Sys2Proof.Machine

/-! ### The decoder accepts exactly the table of R85 -/

/-- An accepted pair of fields is in the table, by the branches of the opcode map. -/
theorem legalFields_of_decodeOp {op : BitVec 8} {arg : Word48} {i : Instr} (h : decodeOp op arg = .ok i) :
    LegalFields op arg := by
  unfold decodeOp at h
  split at h
  · next hE =>
    obtain ⟨harg, -⟩ := noOperand_eq_ok.mp h
    simp [LegalFields, (csrr_op_iff op).mp hE, harg]
  · split at h
    -- `SYS.ABORT` has two codes, `CSRW TGT_LEN` takes every value, the last branch is an error.
    case h_2 =>
      split_ifs at h with h4 h5
      · simp [LegalFields, h4]
      · simp [LegalFields, h5]
    case h_42 => simp [LegalFields]
    case h_43 => cases h
    all_goals
      simp only [noOperand_eq_ok, withOperand_eq_ok] at h
      simpa [LegalFields] using h.1

/-- Every row of the table is accepted. -/
theorem decodeOp_of_legalFields {op : BitVec 8} {arg : Word48} (h : LegalFields op arg) :
    ∃ i, decodeOp op arg = .ok i := by
  rcases h with ⟨hop, rfl⟩ | ⟨rfl, rfl | rfl⟩ | ⟨rfl, harg⟩ | ⟨hop, harg⟩ | ⟨hop, harg⟩ | ⟨rfl, harg⟩ | ⟨rfl, harg⟩ |
    ⟨hlo, hhi, rfl⟩ | ⟨hop, harg⟩ | ⟨rfl, harg⟩ | rfl
  · fin_cases hop <;> exact ⟨_, noOperand_zero _⟩
  · exact ⟨.sysAbortSink, rfl⟩
  · exact ⟨.sysAbortSource, rfl⟩
  · exact ⟨_, withOperand_of_lt harg _⟩
  · fin_cases hop <;> exact ⟨_, withOperand_of_lt harg _⟩
  · fin_cases hop <;> exact ⟨_, withOperand_of_lt harg _⟩
  · exact ⟨_, withOperand_of_lt harg _⟩
  · exact ⟨_, withOperand_of_lt harg fun a => .sspPush (a.extractLsb' 3 1) (a.extractLsb' 0 3)⟩
  · exact ⟨_, (if_pos ((csrr_op_iff op).mpr ⟨hlo, hhi⟩)).trans (noOperand_zero _)⟩
  · fin_cases hop <;> exact ⟨_, withOperand_of_lt harg _⟩
  · exact ⟨_, withOperand_of_lt harg _⟩
  · exact ⟨.csrwTgtLen arg, rfl⟩

/-- The decoder accepts a word exactly when `rsvd` is 0 and its fields are in the table (R83, R85). -/
theorem decode_accepts_iff (w : Word) :
    (∃ i, decode w = .ok i) ↔ rsvdOf w = 0 ∧ LegalFields (opOf w) (argOf w) := by
  unfold decode
  split
  · next hrsvd => exact ⟨fun ⟨_, h⟩ => ⟨hrsvd, legalFields_of_decodeOp h⟩, fun h => decodeOp_of_legalFields h.2⟩
  · next hrsvd => exact ⟨fun ⟨_, h⟩ => (nomatch h), fun h => absurd h.1 hrsvd⟩

theorem decode_refuses_iff (w : Word) : (∃ e, decode w = .error e) ↔ ¬ ∃ i, decode w = .ok i := by
  cases decode w <;> simp

/-! ### A step on an illegal word -/

/-- A running block takes the fault IllegalCommand with the `op` byte (R86, R290). -/
theorem illegalCommand_of_running {s : State} (w : Word) (hfault : s.fault = none) :
    illegalCommand w s = .next (s.takeFault .illegalCommand ((opOf w).setWidth 48)) := by
  rw [illegalCommand, command_of_running hfault, finish_raised]

/-- An illegal word at the head of the inbox is answered by the fault entry alone (R86, R296). -/
theorem step_of_illegal {s : State} {w : Word} {rest : List HostAction} {e : DecodeError}
    (hinbox : s.inbox = .command w :: rest) (hdecode : decode w = .error e) (hfault : s.fault = none) :
    step s = .next (({ s with inbox := rest } : State).takeFault .illegalCommand ((opOf w).setWidth 48)) := by
  have hstep : step s = illegalCommand w { s with inbox := rest } := by
    simp only [step, hinbox, present, hdecode]
  exact hstep.trans (illegalCommand_of_running w hfault)

/-- Settles O6: the words refused are those outside the table, and each takes the fault entry. -/
theorem illegalCommandsFault : Obligations.IllegalCommandsFault := by
  refine ⟨fun w => ?_, fun s w rest e hinbox hdecode hfault => step_of_illegal hinbox hdecode hfault⟩
  rw [decode_refuses_iff, decode_accepts_iff]

end Sys2Proof.Machine
end

section
/-!
The colour alphabet of spec/40_alphabet.md: the table of R100 is injective and onto the corner colours (R101), so
`digitOf` is its inverse (R103, R105), and units ACE and ACD look it up in the two directions (R102, R104).
-/

namespace Sys2Proof.Machine

/-! ### Colours and their words -/

@[simp] theorem colorOfWord_toWord (c : Color) : colorOfWord c.toWord = c := by
  obtain ⟨r, g, b⟩ := c
  simp only [colorOfWord, Color.toWord, Color.mk.injEq]
  refine ⟨BitVec.extractLsb'_append_eq_left, ?_, ?_⟩
  · rw [BitVec.extractLsb'_append_eq_of_add_le (by omega)]
    exact BitVec.extractLsb'_append_eq_left
  · rw [BitVec.extractLsb'_append_eq_of_add_le (by omega)]
    exact BitVec.extractLsb'_append_eq_right

@[simp] theorem toWord_colorOfWord (w : BitVec 24) : (colorOfWord w).toWord = w := by
  rw [Color.toWord, colorOfWord, BitVec.extractLsb'_append_extractLsb'_eq_extractLsb' (by rfl),
    BitVec.extractLsb'_append_extractLsb'_eq_extractLsb' (by rfl)]
  exact BitVec.extractLsb'_eq_self

/-! ### The table and its inverse -/

theorem colorRom_injective : Function.Injective colorRom := by
  unfold Function.Injective
  decide

theorem mem_allDigits : ∀ d : Digit, d ∈ allDigits := by decide

/-- What the search for a digit finds: it is exact and, the table being injective, unique (R103). -/
theorem digitOf_eq_some_iff {c : Color} {d : Digit} : digitOf c = some d ↔ colorRom d = c := by
  have hexact : ∀ {e}, digitOf c = some e → colorRom e = c := fun he =>
    of_decide_eq_true (List.find?_some (p := fun e => decide (colorRom e = c)) he)
  refine ⟨hexact, fun hd => ?_⟩
  have hfound : (digitOf c).isSome := List.find?_isSome.mpr ⟨d, mem_allDigits d, decide_eq_true hd⟩
  obtain ⟨e, he⟩ := Option.isSome_iff_exists.mp hfound
  rw [he, colorRom_injective ((hexact he).trans hd.symm)]

theorem digitOf_eq_none_iff {c : Color} : digitOf c = none ↔ ∀ d, colorRom d ≠ c := by
  simp only [Option.eq_none_iff_forall_ne_some, ne_eq, digitOf_eq_some_iff]

@[simp] theorem digitOf_colorRom (d : Digit) : digitOf (colorRom d) = some d := digitOf_eq_some_iff.mpr rfl

/-- Every corner colour is an entry (R101); the corners are taken in the binary order of the channels, which is not
the order of the table. -/
theorem exists_colorRom_eq_of_isCorner {c : Color} (h : c.IsCorner) : ∃ d, colorRom d = c := by
  obtain ⟨r, g, b⟩ := c
  obtain ⟨rfl | rfl, rfl | rfl, rfl | rfl⟩ := h
  · exact ⟨0, rfl⟩
  · exact ⟨3, rfl⟩
  · exact ⟨2, rfl⟩
  · exact ⟨5, rfl⟩
  · exact ⟨1, rfl⟩
  · exact ⟨6, rfl⟩
  · exact ⟨4, rfl⟩
  · exact ⟨7, rfl⟩

/-- Settles O25: the table is injective, and onto the corner colours. -/
theorem alphabetIsABijection : Obligations.AlphabetIsABijection := by
  refine ⟨digitOf_colorRom, fun c hcorner => ?_⟩
  obtain ⟨d, hd⟩ := exists_colorRom_eq_of_isCorner hcorner
  exact ⟨d, digitOf_eq_some_iff.mpr hd, hd⟩

/-! ### The table as words -/

/-- The 24-bit values of R100 in the order of their digits. -/
def alphabetWords : List (BitVec 24) :=
  [0x000000, 0xFF0000, 0x00FF00, 0x0000FF, 0xFFFF00, 0x00FFFF, 0xFF00FF, 0xFFFFFF]

theorem alphabetWords_getD : ∀ d : Digit, alphabetWords.getD d.toNat 0 = (colorRom d).toWord := by decide

/-- The same table as response values (R84). -/
theorem alphabetResponses_getD : ∀ d : Digit,
    ([0x000000, 0xFF0000, 0x00FF00, 0x0000FF, 0xFFFF00, 0x00FFFF, 0xFF00FF, 0xFFFFFF] : List Word48).getD d.toNat 0 =
      field (colorRom d).toWord := by decide

theorem toWord_colorRom_mem : ∀ d : Digit, (colorRom d).toWord ∈ alphabetWords := by decide

/-- A word outside the table is the word of no digit's colour. -/
theorem digitOf_colorOfWord_eq_none {w : BitVec 24} (h : w ∉ alphabetWords) : digitOf (colorOfWord w) = none := by
  refine digitOf_eq_none_iff.mpr fun d hd => h ?_
  rw [← toWord_colorOfWord w, ← hd]
  exact toWord_colorRom_mem d

/-! ### The two commands on a running block -/

section

variable {s : State} (hfault : s.fault = none)
include hfault

theorem exec_aceColorof (d : Digit) :
    exec (.aceColorof d) s = .next (s.answer (field (colorRom d).toWord) []) :=
  command_of_running hfault _

theorem exec_acdDigitof_of_some {w : BitVec 24} {d : Digit} (h : digitOf (colorOfWord w) = some d) :
    exec (.acdDigitof w) s = .next (s.answer (field d) []) := by
  change execAcdDigitof w s = _
  rw [execAcdDigitof, h, command_of_running hfault, finish_ok]

theorem exec_acdDigitof_of_none {w : BitVec 24} (h : digitOf (colorOfWord w) = none) :
    exec (.acdDigitof w) s = .next (s.takeFault .unknownColor (field w)) := by
  change execAcdDigitof w s = _
  rw [execAcdDigitof, h, command_of_running hfault, finish_raised]

end

theorem encodes_aceColorof : Encodes 0x10 3 .aceColorof := fun arg => decode_commandWord 0x10 arg

theorem encodes_acdDigitof : Encodes 0x20 24 .acdDigitof := fun arg => decode_commandWord 0x20 arg

/-- Settles O24: each command is its look-up in the table, and a word outside the table has no digit. -/
theorem alphabetCommandsUseTheTable : Obligations.AlphabetCommandsUseTheTable := by
  refine ⟨encodes_aceColorof, encodes_acdDigitof, fun s d hfault => ?_, fun s d hfault => ?_,
    fun s c hfault hc => exec_acdDigitof_of_none hfault (digitOf_colorOfWord_eq_none hc)⟩
  · rw [alphabetResponses_getD]
    exact exec_aceColorof hfault d
  · have hdigit : digitOf (colorOfWord (alphabetWords.getD d.toNat 0)) = some d := by
      rw [alphabetWords_getD, colorOfWord_toWord, digitOf_colorRom]
    exact exec_acdDigitof_of_some hfault hdigit

end Sys2Proof.Machine
end

section
/-!
The frame layout of spec/41_frame_layout.md: the arithmetic of the grid (R110 to R113) and the commands of unit FLG
(R114 to R118). That blocks do not overlap is read backwards: a pixel's own coordinates, divided by the block side,
give the column and the row of the block it lies in.
-/

namespace Sys2Proof.Machine

/-! ### The grid

Division by 0 gives 0 in `Nat`, so the case `B = 0` of R110 needs no separate treatment. -/

section

variable (s : State)

theorem cols_eq_div : s.cols = s.geomW.toNat / s.geomB.toNat := by
  unfold State.cols
  split
  · next hB => simp [hB]
  · rfl

theorem rows_eq_div : s.rows = s.geomH.toNat / s.geomB.toNat := by
  unfold State.rows
  split
  · next hB => simp [hB]
  · rfl

theorem cnt_eq_div_mul_div :
    s.cnt = s.geomW.toNat / s.geomB.toNat * (s.geomH.toNat / s.geomB.toNat) := by
  rw [State.cnt, cols_eq_div, rows_eq_div]

theorem cols_mul_side_le : s.cols * s.geomB.toNat ≤ s.geomW.toNat := by
  rw [cols_eq_div]
  exact Nat.div_mul_le_self ..

theorem rows_mul_side_le : s.rows * s.geomB.toNat ≤ s.geomH.toNat := by
  rw [rows_eq_div]
  exact Nat.div_mul_le_self ..

@[simp] theorem origin_fst (i : Nat) : (s.origin i).1 = i % s.cols * s.geomB.toNat := rfl

@[simp] theorem origin_snd (i : Nat) : (s.origin i).2 = i / s.cols * s.geomB.toNat := rfl

end

/-! ### A block inside the grid (R113) -/

section

variable {s : State} {i : Nat} (hi : i < s.cnt)
include hi

theorem col_lt_cols : i % s.cols < s.cols := Nat.mod_lt _ (Nat.pos_of_mul_pos_right (Nat.zero_lt_of_lt hi))

theorem row_lt_rows : i / s.cols < s.rows := Nat.div_lt_of_lt_mul hi

theorem side_pos : 0 < s.geomB.toNat := by
  refine Nat.pos_of_ne_zero fun hB => ?_
  have hcols := col_lt_cols hi
  rw [cols_eq_div, hB, Nat.div_zero] at hcols
  exact Nat.not_lt_zero _ hcols

theorem origin_fst_add_side_le : (s.origin i).1 + s.geomB.toNat ≤ s.cols * s.geomB.toNat := by
  rw [origin_fst, ← Nat.succ_mul]
  exact Nat.mul_le_mul_right _ (col_lt_cols hi)

theorem origin_snd_add_side_le : (s.origin i).2 + s.geomB.toNat ≤ s.rows * s.geomB.toNat := by
  rw [origin_snd, ← Nat.succ_mul]
  exact Nat.mul_le_mul_right _ (row_lt_rows hi)

theorem origin_fst_add_side_le_width : (s.origin i).1 + s.geomB.toNat ≤ s.geomW.toNat :=
  (origin_fst_add_side_le hi).trans (cols_mul_side_le s)

theorem origin_snd_add_side_le_height : (s.origin i).2 + s.geomB.toNat ≤ s.geomH.toNat :=
  (origin_snd_add_side_le hi).trans (rows_mul_side_le s)

theorem origin_fst_lt : (s.origin i).1 < 4096 := by
  have hx := origin_fst_add_side_le_width hi
  have hW := s.geomW.isLt
  omega

theorem origin_snd_lt : (s.origin i).2 < 4096 := by
  have hy := origin_snd_add_side_le_height hi
  have hH := s.geomH.isLt
  omega

end

/-! ### The pixels of a block (R112, R113) -/

section

variable {s : State} {i j x y : Nat}

theorem mem_blockPixels_iff : (x, y) ∈ s.blockPixels i ↔
    (s.origin i).1 ≤ x ∧ x < (s.origin i).1 + s.geomB.toNat ∧
    (s.origin i).2 ≤ y ∧ y < (s.origin i).2 + s.geomB.toNat := by
  simp only [State.blockPixels, List.mem_flatMap, List.mem_map, List.mem_range, Prod.mk.injEq]
  constructor
  · rintro ⟨dy, hdy, dx, hdx, rfl, rfl⟩
    omega
  · rintro ⟨hx, hx', hy, hy'⟩
    exact ⟨y - (s.origin i).2, by omega, x - (s.origin i).1, by omega, by omega, by omega⟩

theorem lt_width_and_lt_height_of_mem_blockPixels (hi : i < s.cnt) (h : (x, y) ∈ s.blockPixels i) :
    x < s.geomW.toNat ∧ y < s.geomH.toNat := by
  obtain ⟨-, hx, -, hy⟩ := mem_blockPixels_iff.mp h
  exact ⟨hx.trans_le (origin_fst_add_side_le_width hi), hy.trans_le (origin_snd_add_side_le_height hi)⟩

/-- The column of a pixel's block is the pixel's own column over the block side. -/
theorem div_side_eq_col (h : (x, y) ∈ s.blockPixels i) : x / s.geomB.toNat = i % s.cols := by
  obtain ⟨hx, hx', -, -⟩ := mem_blockPixels_iff.mp h
  rw [origin_fst, ← Nat.succ_mul] at hx'
  exact Nat.div_eq_of_lt_le hx hx'

/-- The row of a pixel's block is the pixel's own row over the block side. -/
theorem div_side_eq_row (h : (x, y) ∈ s.blockPixels i) : y / s.geomB.toNat = i / s.cols := by
  obtain ⟨-, -, hy, hy'⟩ := mem_blockPixels_iff.mp h
  rw [origin_snd, ← Nat.succ_mul] at hy'
  exact Nat.div_eq_of_lt_le hy hy'

/-- A pixel determines the index of its block, so two blocks share no pixel. -/
theorem eq_of_mem_blockPixels (hi : (x, y) ∈ s.blockPixels i) (hj : (x, y) ∈ s.blockPixels j) : i = j := by
  have hcol : i % s.cols = j % s.cols := (div_side_eq_col hi).symm.trans (div_side_eq_col hj)
  have hrow : i / s.cols = j / s.cols := (div_side_eq_row hi).symm.trans (div_side_eq_row hj)
  calc i = s.cols * (i / s.cols) + i % s.cols := (Nat.div_add_mod ..).symm
    _ = s.cols * (j / s.cols) + j % s.cols := by rw [hcol, hrow]
    _ = j := Nat.div_add_mod ..

end

/-- Settles O44: the bounds from those of the column and the row, disjointness from a pixel's block index. -/
theorem blocksTileTheFrame : Obligations.BlocksTileTheFrame := fun s i hi =>
  ⟨Nat.le_sub_one_of_lt (col_lt_cols hi), Nat.le_sub_one_of_lt (row_lt_rows hi), origin_fst s i, origin_snd s i,
    origin_fst_add_side_le hi, cols_mul_side_le s, origin_snd_add_side_le hi, rows_mul_side_le s,
    origin_fst_lt hi, origin_snd_lt hi, fun _ _ => mem_blockPixels_iff,
    fun _ hq => lt_width_and_lt_height_of_mem_blockPixels hi hq,
    fun _ _ hne _ hq hq' => hne (eq_of_mem_blockPixels hq' hq)⟩

/-! ### Response values as numbers -/

theorem field_eq_ofNat {n : Nat} (v : BitVec n) : field v = BitVec.ofNat 48 v.toNat := (BitVec.ofNat_toNat 48 v).symm

/-- A field put above `m` bits counts by `2 ^ m`. -/
theorem field_append {n m : Nat} (hi : BitVec n) (lo : BitVec m) :
    field (hi ++ lo) = BitVec.ofNat 48 (2 ^ m * hi.toNat + lo.toNat) := by
  rw [field_eq_ofNat, BitVec.toNat_append, ← Nat.shiftLeft_add_eq_or_of_lt lo.isLt, Nat.shiftLeft_eq, Nat.mul_comm]

theorem originField_eq_ofNat {x y : Nat} (hx : x < 4096) (hy : y < 4096) :
    originField x y = BitVec.ofNat 48 (4096 * x + y) := by
  rw [originField, field_append]
  simp [Nat.mod_eq_of_lt hx, Nat.mod_eq_of_lt hy]

/-- Bit 24 set: WRAP (R117). -/
theorem flagged_true (v : BitVec 24) : flagged true v = BitVec.ofNat 48 (16777216 + v.toNat) := field_append ..

theorem flagged_false (v : BitVec 24) : flagged false v = BitVec.ofNat 48 v.toNat := by
  rw [flagged, field_append, bit, BitVec.toNat_ofBool, Bool.toNat_false, Nat.mul_zero, Nat.zero_add]

/-! ### The commands on a running block -/

theorem lastBlock_iff (s : State) : s.lastBlock = true ↔ s.cur.toNat + 1 = s.cnt := decide_eq_true_iff

/-- The quotient of R118 does not exceed `GEOM_W`, so it fits `GEOM_B` (assumption log 9). -/
theorem rescaledSide_lt (s : State) : s.rescaledSide < 4096 := (Nat.div_le_self ..).trans_lt s.geomW.isLt

/-- `GEOM_W = 0` is one of the cases in which the side is 0 (R118). -/
theorem rescaledSide_of_geomW_eq_zero {s : State} (h : s.geomW = 0) : s.rescaledSide = 0 := by
  simp [State.rescaledSide, h]

section

variable {s : State} (hfault : s.fault = none)
include hfault

theorem exec_flgBlkcnt : exec .flgBlkcnt s = .next (s.answer (numField s.cnt) []) := command_of_running hfault _

theorem exec_flgCurrst : exec .flgCurrst s = .next (({ s with cur := 0 } : State).answer 0 []) :=
  command_of_running hfault _

theorem exec_flgBlkorg (i : BlockIndex) : exec (.flgBlkorg i) s =
    finish s (onBlock s 0x61 i (.ok ⟨s, originField (s.origin i.toNat).1 (s.origin i.toNat).2, []⟩)) :=
  command_of_running hfault _

theorem exec_flgBlkorg_of_lt {i : BlockIndex} (hi : i.toNat < s.cnt) : exec (.flgBlkorg i) s =
    .next (s.answer (BitVec.ofNat 48 (4096 * (s.origin i.toNat).1 + (s.origin i.toNat).2)) []) := by
  rw [exec_flgBlkorg hfault, onBlock, if_neg (Nat.ne_zero_of_lt hi), if_neg hi.not_ge, finish_ok,
    originField_eq_ofNat (origin_fst_lt hi) (origin_snd_lt hi)]

theorem exec_flgBlkorg_of_no_grid (i : BlockIndex) (hcnt : s.cnt = 0) :
    exec (.flgBlkorg i) s = .next (s.takeFault .configError 0x61) := by
  rw [exec_flgBlkorg hfault, onBlock, if_pos hcnt, finish_raised]

theorem exec_flgBlkorg_of_le {i : BlockIndex} (hcnt : 0 < s.cnt) (hi : s.cnt ≤ i.toNat) :
    exec (.flgBlkorg i) s = .next (s.takeFault .operandRange 0x61) := by
  rw [exec_flgBlkorg hfault, onBlock, if_neg hcnt.ne', if_pos hi, finish_raised]

theorem exec_flgCurnext_of_no_grid (hcnt : s.cnt = 0) :
    exec .flgCurnext s = .next (s.takeFault .configError 0x63) := by
  change execFlgCurnext s = _
  rw [execFlgCurnext, command_of_running hfault, if_pos hcnt, finish_raised]

theorem exec_flgCurnext_of_grid (hcnt : 0 < s.cnt) :
    exec .flgCurnext s = .next (s.advance.answer (flagged s.lastBlock s.cur) []) := by
  change execFlgCurnext s = _
  rw [execFlgCurnext, command_of_running hfault, if_neg hcnt.ne', finish_ok]

theorem exec_flgCurnext_of_last (hcnt : 0 < s.cnt) (hlast : s.cur.toNat + 1 = s.cnt) :
    exec .flgCurnext s =
      .next (({ s with cur := 0 } : State).answer (BitVec.ofNat 48 (16777216 + s.cur.toNat)) []) := by
  rw [exec_flgCurnext_of_grid hfault hcnt, State.advance, (lastBlock_iff s).mpr hlast, if_pos rfl, flagged_true]

theorem exec_flgCurnext_of_not_last (hcnt : 0 < s.cnt) (hlast : s.cur.toNat + 1 ≠ s.cnt) :
    exec .flgCurnext s =
      .next (({ s with cur := s.cur + 1 } : State).answer (BitVec.ofNat 48 s.cur.toNat) []) := by
  have hflag : s.lastBlock = false := decide_eq_false hlast
  rw [exec_flgCurnext_of_grid hfault hcnt, State.advance, hflag, if_neg Bool.false_ne_true, flagged_false]

theorem exec_flgRescale_of_eq_zero (hside : s.rescaledSide = 0) :
    exec .flgRescale s = .next (s.takeFault .configError 0x64) := by
  change execFlgRescale s = _
  rw [execFlgRescale, command_of_running hfault, if_pos (.inr hside), finish_raised]

theorem exec_flgRescale_of_ne_zero (hside : s.rescaledSide ≠ 0) :
    exec .flgRescale s =
      .next (({ s.restartGrid with geomB := BitVec.ofNat 12 s.rescaledSide } : State).answer
        (BitVec.ofNat 48 s.rescaledSide) []) := by
  have hgo : ¬ (s.geomW = 0 ∨ s.rescaledSide = 0) := fun h => hside (h.elim rescaledSide_of_geomW_eq_zero id)
  change execFlgRescale s = _
  rw [execFlgRescale, command_of_running hfault, if_neg hgo, finish_ok, field_eq_ofNat, BitVec.toNat_ofNat,
    Nat.mod_eq_of_lt (rescaledSide_lt s)]

end

/-! ### The encodings -/

theorem encodesBare_flgBlkcnt : EncodesBare 0x60 .flgBlkcnt := fun arg => decode_commandWord 0x60 arg

theorem encodes_flgBlkorg : Encodes 0x61 24 .flgBlkorg := fun arg => decode_commandWord 0x61 arg

theorem encodesBare_flgCurrst : EncodesBare 0x62 .flgCurrst := fun arg => decode_commandWord 0x62 arg

theorem encodesBare_flgCurnext : EncodesBare 0x63 .flgCurnext := fun arg => decode_commandWord 0x63 arg

theorem encodesBare_flgRescale : EncodesBare 0x64 .flgRescale := fun arg => decode_commandWord 0x64 arg

/-- Settles O42, command by command, with the counts of the grid as quotients. -/
theorem layoutCommandsCompute : Obligations.LayoutCommandsCompute := by
  refine ⟨encodesBare_flgBlkcnt, encodes_flgBlkorg, encodesBare_flgCurrst, encodesBare_flgCurnext,
    fun s hfault => ?_⟩
  dsimp only
  rw [← cnt_eq_div_mul_div, ← cols_eq_div]
  exact ⟨exec_flgBlkcnt hfault, exec_flgCurrst hfault, fun _ => exec_flgBlkorg_of_lt hfault,
    exec_flgBlkorg_of_no_grid hfault, fun _ => exec_flgBlkorg_of_le hfault, exec_flgCurnext_of_no_grid hfault,
    exec_flgCurnext_of_last hfault, exec_flgCurnext_of_not_last hfault⟩

/-- Settles O43: the command branches on the quotient alone. -/
theorem rescaleDerivesTheBlockSide : Obligations.RescaleDerivesTheBlockSide :=
  ⟨encodesBare_flgRescale, fun s hfault _ => ⟨exec_flgRescale_of_eq_zero hfault,
    fun hside => ⟨Nat.le_of_lt_succ (rescaledSide_lt s), exec_flgRescale_of_ne_zero hfault hside⟩⟩⟩

end Sys2Proof.Machine
end

section
/-!
The block classifier of spec/42_block_classifier.md: the comparators on one pixel (R132 to R136), strategy 0 as a scan
that keeps the first minimum (R137), strategy 1 on the clipped neighbourhood (R139 to R141), and the commands of unit
BCC. Both strategies answer with corner colours only (R145).
-/

namespace Sys2Proof.Machine

/-! ### Colours by the numbers of their channels -/

theorem colorOfWord_r_toNat (w : BitVec 24) : (colorOfWord w).r.toNat = w.toNat / 65536 := by
  have hw := w.isLt
  simp only [colorOfWord, BitVec.extractLsb'_toNat, Nat.shiftRight_eq_div_pow]
  omega

theorem colorOfWord_g_toNat (w : BitVec 24) : (colorOfWord w).g.toNat = w.toNat / 256 % 256 := by
  simp only [colorOfWord, BitVec.extractLsb'_toNat, Nat.shiftRight_eq_div_pow]

theorem colorOfWord_b_toNat (w : BitVec 24) : (colorOfWord w).b.toNat = w.toNat % 256 := by
  simp only [colorOfWord, BitVec.extractLsb'_toNat, Nat.shiftRight_zero]

/-- The red byte counts by 65536 and the green one by 256 (R14). -/
theorem field_toWord (c : Color) :
    field c.toWord = BitVec.ofNat 48 (65536 * c.r.toNat + 256 * c.g.toNat + c.b.toNat) := by
  rw [Color.toWord, field_append, BitVec.toNat_append, ← Nat.shiftLeft_add_eq_or_of_lt c.b.isLt, Nat.shiftLeft_eq]
  congr 1
  omega

/-! ### Snapping -/

theorem snapChannel_eq_zero_or (v : Byte) : snapChannel v = 0 ∨ snapChannel v = 255 := ite_eq_or_eq ..

theorem toNat_snapChannel (v : Byte) : (snapChannel v).toNat = if v.toNat < 128 then 0 else 255 :=
  apply_ite BitVec.toNat ..

theorem isCorner_snap (p : Color) : (snap p).IsCorner :=
  ⟨snapChannel_eq_zero_or p.r, snapChannel_eq_zero_or p.g, snapChannel_eq_zero_or p.b⟩

/-- R105 as it is used here: the digit of a corner colour exists. -/
theorem exists_digitOf_of_isCorner {c : Color} (h : c.IsCorner) : ∃ d, digitOf c = some d := by
  obtain ⟨d, hd⟩ := exists_colorRom_eq_of_isCorner h
  exact ⟨d, digitOf_eq_some_iff.mpr hd⟩

/-! ### Channel classes -/

/-- The average `sum / n` lies in `T_LO .. T_HI`, endpoints included (R135). -/
def Params.InDeadZone (p : Params) (sum n : Nat) : Prop := p.tLo * n ≤ sum ∧ sum ≤ p.tHi * n

section

variable {p : Params} {n : Nat}

theorem threshold_eq_dead_iff {sum : Nat} : threshold p sum n = .dead ↔ Params.InDeadZone p sum n := by
  unfold threshold Params.InDeadZone
  split_ifs with hlo hhi
  · exact iff_of_false nofun fun h => h.1.not_gt hlo
  · exact iff_of_false nofun fun h => h.2.not_gt hhi
  · exact iff_of_true rfl ⟨Nat.le_of_not_lt hlo, Nat.le_of_not_lt hhi⟩

theorem levelByte_threshold {sum : Nat} (h : ¬ Params.InDeadZone p sum n) :
    levelByte (threshold p sum n) = if sum < p.tLo * n then 0 else 255 := by
  rw [← threshold_eq_dead_iff] at h
  unfold threshold at h ⊢
  split_ifs at h ⊢
  · rfl
  · rfl
  · exact absurd rfl h

theorem levelByte_eq_zero_or (l : Level) : levelByte l = 0 ∨ levelByte l = 255 := by
  cases l
  case hi => exact .inr rfl
  all_goals exact .inl rfl

theorem isCorner_of_combineLevels {r g b : Level} {c : Color} (h : combineLevels r g b = .resolved c) :
    c.IsCorner := by
  unfold combineLevels at h
  split at h
  · cases h
  · cases h
    exact ⟨levelByte_eq_zero_or r, levelByte_eq_zero_or g, levelByte_eq_zero_or b⟩

variable {r g b : Nat}

theorem combineLevels_threshold_of_dead
    (h : Params.InDeadZone p r n ∨ Params.InDeadZone p g n ∨ Params.InDeadZone p b n) :
    combineLevels (threshold p r n) (threshold p g n) (threshold p b n) = .indeterminate := by
  simp only [← threshold_eq_dead_iff] at h
  exact if_pos h

theorem combineLevels_threshold_of_not_dead
    (h : ¬ (Params.InDeadZone p r n ∨ Params.InDeadZone p g n ∨ Params.InDeadZone p b n)) :
    combineLevels (threshold p r n) (threshold p g n) (threshold p b n) =
      .resolved ⟨if r < p.tLo * n then 0 else 255, if g < p.tLo * n then 0 else 255,
        if b < p.tLo * n then 0 else 255⟩ := by
  obtain ⟨hr, hg, hb⟩ : ¬ _ ∧ ¬ _ ∧ ¬ _ := by simpa only [not_or] using h
  simp only [← threshold_eq_dead_iff] at h
  rw [combineLevels, if_neg h, levelByte_threshold hr, levelByte_threshold hg, levelByte_threshold hb]

end

/-- Settles O31: both strategies end in a function whose values are corners. -/
theorem resolvedColoursAreCorners : Obligations.ResolvedColoursAreCorners := by
  intro s i c h
  have hcorner : c.IsCorner := by
    rcases h with hnearest | hthreshold
    · cases hnearest
      exact isCorner_snap _
    · exact isCorner_of_combineLevels hthreshold
  exact ⟨hcorner, exists_digitOf_of_isCorner hcorner⟩

/-! ### Strategy 0: the first minimum of a scan (R137) -/

/-- Counting `0 .. a * b - 1` in `a` rows of `b`. -/
theorem flatMap_range_map_range {α : Type} (f : Nat → α) (a b : Nat) :
    ((List.range a).flatMap fun i => (List.range b).map fun j => f (i * b + j)) = (List.range (a * b)).map f := by
  induction a with
  | zero => simp
  | succ a ih => simp [List.range_succ, Nat.succ_mul, List.range_add, ih]

/-- The pixels of a block by their position in row-major order (R112). -/
theorem blockPixels_eq_map_range (s : State) (i : Nat) :
    s.blockPixels i = (List.range (s.geomB.toNat * s.geomB.toNat)).map fun n =>
      ((s.origin i).1 + n % s.geomB.toNat, (s.origin i).2 + n / s.geomB.toNat) := by
  rw [← flatMap_range_map_range, State.blockPixels]
  refine List.flatMap_congr fun dy _ => List.map_congr_left fun dx hdx => ?_
  have hlt : dx < s.geomB.toNat := List.mem_range.mp hdx
  have hpos : 0 < s.geomB.toNat := Nat.zero_lt_of_lt hlt
  rw [Nat.mul_add_mod_of_lt hlt, Nat.mul_comm dy, Nat.mul_add_div hpos, Nat.div_eq_of_lt hlt, Nat.add_zero]

/-- Position `n` holds the first pixel with the least score among the positions below `bound`. -/
structure IsFirstMin (px : Nat → Color) (bound n : Nat) : Prop where
  lt : n < bound
  least : ∀ m, m < bound → score (px n) ≤ score (px m)
  first : ∀ m, m < n → score (px n) < score (px m)

/-- One more pixel replaces the kept one exactly when its score is strictly lower. -/
theorem IsFirstMin.succ {px : Nat → Color} {k n : Nat} (h : IsFirstMin px k n) :
    IsFirstMin px (k + 1) (if score (px k) < score (px n) then k else n) := by
  split_ifs with hk
  · refine ⟨Nat.lt_succ_self k, fun m hm => ?_, fun m hm => hk.trans_le (h.least m hm)⟩
    rcases Nat.lt_succ_iff_lt_or_eq.mp hm with hlt | rfl
    · exact hk.le.trans (h.least m hlt)
    · exact le_rfl
  · refine ⟨h.lt.trans (Nat.lt_succ_self k), fun m hm => ?_, h.first⟩
    rcases Nat.lt_succ_iff_lt_or_eq.mp hm with hlt | rfl
    · exact h.least m hlt
    · exact Nat.le_of_not_lt hk

theorem keepBest_append_singleton (best : Color) (ps : List Color) (p : Color) :
    keepBest best (ps ++ [p]) = if score p < score (keepBest best ps) then p else keepBest best ps :=
  List.foldl_append

/-- The scan of a non-empty sequence that starts with its own first pixel keeps the first minimum. -/
theorem exists_isFirstMin_keepBest (px : Nat → Color) (k : Nat) :
    ∃ n, IsFirstMin px (k + 1) n ∧ keepBest (px 0) ((List.range (k + 1)).map px) = px n := by
  induction k with
  | zero =>
    refine ⟨0, ⟨Nat.one_pos, fun m hm => ?_, nofun⟩, ite_self _⟩
    rw [Nat.lt_one_iff.mp hm]
  | succ k ih =>
    obtain ⟨n, hmin, hkeep⟩ := ih
    refine ⟨_, hmin.succ, ?_⟩
    rw [List.range_succ, List.map_append, List.map_singleton, keepBest_append_singleton, hkeep, apply_ite px]

/-- Settles O28: the scan of the block's pixels by position, the first of them the origin. -/
theorem nearestCornerKeepsTheFirstMinimum : Obligations.NearestCornerKeepsTheFirstMinimum := by
  intro s i hi px
  obtain ⟨k, hk⟩ := Nat.exists_eq_succ_of_ne_zero (Nat.mul_pos (side_pos hi) (side_pos hi)).ne'
  obtain ⟨n, ⟨hlt, hleast, hfirst⟩, hkeep⟩ := exists_isFirstMin_keepBest px k
  have hzero : px 0 = s.pixel (s.origin i).1 (s.origin i).2 := by simp [px]
  have hscan : (s.blockPixels i).map (fun q => s.pixel q.1 q.2) = (List.range (k + 1)).map px := by
    rw [blockPixels_eq_map_range, List.map_map, hk]
    rfl
  refine ⟨n, hk ▸ hlt, hk ▸ hleast, hfirst, ?_⟩
  rw [State.classifyNearest, ← hzero, hscan, hkeep]

/-! ### Strategy 1: the neighbourhood (R139, R140) -/

section

variable {c bound : Nat}

theorem mem_nearCoordinates {x : Nat} : x ∈ nearCoordinates c bound ↔ c ≤ x + 1 ∧ x ≤ c + 1 ∧ x < bound := by
  simp only [nearCoordinates, List.mem_filterMap, List.mem_range, Option.ite_none_right_eq_some, Option.some.injEq]
  constructor
  · rintro ⟨e, he, ⟨hpos, hlt⟩, rfl⟩
    omega
  · rintro ⟨hlow, hhigh, hlt⟩
    exact ⟨x + 1 - c, by omega, by omega, by omega⟩

theorem nodup_nearCoordinates (c bound : Nat) : (nearCoordinates c bound).Nodup := by
  refine List.nodup_range.filterMap fun e e' x he he' => ?_
  simp only [Option.mem_def, Option.ite_none_right_eq_some, Option.some.injEq] at he he'
  omega

theorem length_nearCoordinates_le (c bound : Nat) : (nearCoordinates c bound).length ≤ 3 :=
  List.length_filterMap_le ..

/-- Away from both borders nothing is clipped. -/
theorem length_nearCoordinates (hlow : 1 ≤ c) (hhigh : c + 1 < bound) : (nearCoordinates c bound).length = 3 := by
  have hall : ∀ e ∈ List.range 3, 1 ≤ c + e ∧ c + e - 1 < bound := fun e he => by
    have hlt := List.mem_range.mp he
    omega
  rw [nearCoordinates, List.filterMap_congr fun e he => if_pos (hall e he)]
  simp

end

theorem neighbourhood_eq_product (s : State) (i : Nat) :
    s.neighbourhood i =
      (nearCoordinates (s.centre i).2 s.geomH.toNat ×ˢ nearCoordinates (s.centre i).1 s.geomW.toNat).map Prod.swap := by
  simp [State.neighbourhood, SProd.sprod, List.product, List.map_flatMap, Function.comp_def]

section

variable (s : State) (i : Nat)

theorem length_neighbourhood :
    (s.neighbourhood i).length = (nearCoordinates (s.centre i).2 s.geomH.toNat).length *
      (nearCoordinates (s.centre i).1 s.geomW.toNat).length := by
  rw [neighbourhood_eq_product, List.length_map, List.length_product]

theorem nodup_neighbourhood : (s.neighbourhood i).Nodup := by
  rw [neighbourhood_eq_product]
  exact ((nodup_nearCoordinates ..).product (nodup_nearCoordinates ..)).map Prod.swap_injective

theorem length_neighbourhood_le : (s.neighbourhood i).length ≤ 9 := by
  rw [length_neighbourhood]
  exact Nat.mul_le_mul (length_nearCoordinates_le ..) (length_nearCoordinates_le ..)

end

section

variable {s : State} {i x y : Nat}

theorem mem_neighbourhood_iff : (x, y) ∈ s.neighbourhood i ↔
    (s.centre i).1 ≤ x + 1 ∧ x ≤ (s.centre i).1 + 1 ∧ (s.centre i).2 ≤ y + 1 ∧ y ≤ (s.centre i).2 + 1 ∧
    x < s.geomW.toNat ∧ y < s.geomH.toNat := by
  simp only [State.neighbourhood, List.mem_flatMap, List.mem_map, Prod.mk.injEq, mem_nearCoordinates]
  constructor
  · rintro ⟨y', ⟨hy, hy', hyH⟩, x', ⟨hx, hx', hxW⟩, rfl, rfl⟩
    exact ⟨hx, hx', hy, hy', hxW, hyH⟩
  · rintro ⟨hx, hx', hy, hy', hxW, hyH⟩
    exact ⟨y, ⟨hy, hy', hyH⟩, x, ⟨hx, hx', hxW⟩, rfl, rfl⟩

theorem length_neighbourhood_of_inside (hx : 1 ≤ (s.centre i).1) (hx' : (s.centre i).1 + 1 < s.geomW.toNat)
    (hy : 1 ≤ (s.centre i).2) (hy' : (s.centre i).2 + 1 < s.geomH.toNat) : (s.neighbourhood i).length = 9 := by
  rw [length_neighbourhood, length_nearCoordinates hy hy', length_nearCoordinates hx hx']

theorem centre_mem_neighbourhood (hi : i < s.cnt) : s.centre i ∈ s.neighbourhood i := by
  have hB : s.geomB.toNat / 2 < s.geomB.toNat := Nat.div_lt_self (side_pos hi) Nat.one_lt_two
  have hW := origin_fst_add_side_le_width hi
  have hH := origin_snd_add_side_le_height hi
  refine mem_neighbourhood_iff.mpr ⟨Nat.le_succ _, Nat.le_succ _, Nat.le_succ _, Nat.le_succ _, ?_, ?_⟩
  · exact (Nat.add_lt_add_left hB _).trans_le hW
  · exact (Nat.add_lt_add_left hB _).trans_le hH

/-- R143: with `B >= 3` the centre has a pixel of its own block on every side. -/
theorem mem_blockPixels_of_mem_neighbourhood (hB : 3 ≤ s.geomB.toNat) (h : (x, y) ∈ s.neighbourhood i) :
    (x, y) ∈ s.blockPixels i := by
  obtain ⟨hx, hx', hy, hy', -, -⟩ := mem_neighbourhood_iff.mp h
  simp only [State.centre] at hx hx' hy hy'
  exact mem_blockPixels_iff.mpr (by omega)

theorem length_neighbourhood_of_three_le (hi : i < s.cnt) (hB : 3 ≤ s.geomB.toNat) :
    (s.neighbourhood i).length = 9 := by
  have hW := origin_fst_add_side_le_width hi
  have hH := origin_snd_add_side_le_height hi
  apply length_neighbourhood_of_inside <;> simp only [State.centre] <;> omega

end

/-- The classes of R141 are taken of the sums over the neighbourhood and of its size. -/
theorem classifyThreshold_eq (s : State) (i : Nat) :
    let near := s.neighbourhood i
    let sum : (Color → Byte) → Nat := fun channel => (near.map fun q => (channel (s.pixel q.1 q.2)).toNat).sum
    s.classifyThreshold i = combineLevels (threshold s.cfg (sum Color.r) near.length)
      (threshold s.cfg (sum Color.g) near.length) (threshold s.cfg (sum Color.b) near.length) := by
  simp only [State.classifyThreshold, channelSum, List.map_map, List.length_map, Function.comp_def]

/-- Settles O29: the neighbourhood as a product of two clipped intervals, then the classes of its channel sums. -/
theorem thresholdUsesTheClippedNeighbourhood : Obligations.ThresholdUsesTheClippedNeighbourhood := by
  intro s i hi B cx cy near n sum dead lvl
  have hclass := classifyThreshold_eq s i
  have hcentre : (cx, cy) ∈ near := centre_mem_neighbourhood hi
  exact ⟨fun _ _ => mem_neighbourhood_iff, nodup_neighbourhood s i, hcentre, List.length_pos_of_mem hcentre,
    length_neighbourhood_le s i, length_neighbourhood_of_inside,
    fun hB => ⟨length_neighbourhood_of_three_le hi hB, fun _ hq => mem_blockPixels_of_mem_neighbourhood hB hq⟩,
    fun hdead => hclass.trans (combineLevels_threshold_of_dead hdead),
    fun hlive => hclass.trans (combineLevels_threshold_of_not_dead hlive)⟩

/-! ### Response values -/

@[simp] theorem classField_resolved (c : Color) : classField (.resolved c) = field c.toWord :=
  (flagged_false _).trans (field_eq_ofNat _).symm

@[simp] theorem classField_indeterminate : classField .indeterminate = 0x1000000 := flagged_true 0

/-- The answer to a block command, by the two cases of its result (R131). -/
theorem answer_classField (s : State) (r : ClassResult) : s.answer (classField r) [] =
    { s with response := some ⟨0,
      (match r with
       | .resolved c => c.toWord.setWidth 48
       | .indeterminate => 0x1000000), []⟩ } := by
  cases r with
  | resolved c => rw [classField_resolved]; rfl
  | indeterminate => rw [classField_indeterminate]; rfl

theorem classify_eq_ite (s : State) (i : Nat) :
    s.classify i = if s.clsCtrl = .nearestCorner then s.classifyNearest i else s.classifyThreshold i := by
  unfold State.classify
  cases s.clsCtrl <;> rfl

/-! ### The commands on one pixel -/

theorem encodes_bccScore : Encodes 0x30 24 .bccScore := fun arg => decode_commandWord 0x30 arg

theorem encodes_bccSnap : Encodes 0x31 24 .bccSnap := fun arg => decode_commandWord 0x31 arg

theorem encodes_bccThresh : Encodes 0x32 24 .bccThresh := fun arg => decode_commandWord 0x32 arg

section

variable {s : State} (hfault : s.fault = none) (p : BitVec 24)
include hfault

theorem exec_bccScore : exec (.bccScore p) s = .next (s.answer (numField (score (colorOfWord p))) []) :=
  command_of_running hfault _

theorem exec_bccSnap : exec (.bccSnap p) s = .next (s.answer (field (snap (colorOfWord p)).toWord) []) :=
  command_of_running hfault _

theorem exec_bccThresh :
    exec (.bccThresh p) s = .next (s.answer (classField (thresholdPixel s.cfg (colorOfWord p))) []) :=
  command_of_running hfault _

end

/-- The result of `BCC.THRESH` is that of R141 on the one pixel, `n = 1`: a dead channel. -/
theorem thresholdPixel_of_dead {cfg : Params} {p : Color}
    (h : (cfg.tLo ≤ p.r.toNat ∧ p.r.toNat ≤ cfg.tHi) ∨ (cfg.tLo ≤ p.g.toNat ∧ p.g.toNat ≤ cfg.tHi) ∨
      (cfg.tLo ≤ p.b.toNat ∧ p.b.toNat ≤ cfg.tHi)) : thresholdPixel cfg p = .indeterminate :=
  combineLevels_threshold_of_dead (by simpa only [Params.InDeadZone, Nat.mul_one] using h)

/-- The same with no dead channel. -/
theorem thresholdPixel_of_not_dead {cfg : Params} {p : Color}
    (h : ¬ ((cfg.tLo ≤ p.r.toNat ∧ p.r.toNat ≤ cfg.tHi) ∨ (cfg.tLo ≤ p.g.toNat ∧ p.g.toNat ≤ cfg.tHi) ∨
      (cfg.tLo ≤ p.b.toNat ∧ p.b.toNat ≤ cfg.tHi))) :
    thresholdPixel cfg p = .resolved ⟨if p.r.toNat < cfg.tLo then 0 else 255, if p.g.toNat < cfg.tLo then 0 else 255,
      if p.b.toNat < cfg.tLo then 0 else 255⟩ := by
  rw [thresholdPixel, combineLevels_threshold_of_not_dead (by simpa only [Params.InDeadZone, Nat.mul_one] using h)]
  simp only [Nat.mul_one]

/-- Settles O26, command by command, with the channels of the operand as numbers. -/
theorem pixelCommandsCompute : Obligations.PixelCommandsCompute := by
  refine ⟨encodes_bccScore, encodes_bccSnap, encodes_bccThresh, fun s p hfault _ => ?_⟩
  simp only [← colorOfWord_r_toNat, ← colorOfWord_g_toNat, ← colorOfWord_b_toNat]
  refine ⟨exec_bccScore hfault p, ?_, ?_, fun hdead => ?_, fun hlive => ?_⟩
  · rw [exec_bccSnap hfault, field_toWord]
    simp only [snap, toNat_snapChannel]
    rfl
  · exact Option.isSome_iff_exists.mpr (exists_digitOf_of_isCorner (isCorner_snap _))
  · rw [exec_bccThresh hfault, thresholdPixel_of_dead hdead, classField_indeterminate]
    rfl
  · rw [exec_bccThresh hfault, thresholdPixel_of_not_dead hlive, classField_resolved, field_toWord]
    simp only [apply_ite BitVec.toNat]
    rfl

/-! ### The commands on one block -/

theorem encodes_bccClsnc : Encodes 0x33 24 .bccClsnc := fun arg => decode_commandWord 0x33 arg

theorem encodes_bccClsth : Encodes 0x34 24 .bccClsth := fun arg => decode_commandWord 0x34 arg

theorem encodes_bccClassify : Encodes 0x35 24 .bccClassify := fun arg => decode_commandWord 0x35 arg

section

variable {s : State} {i : BlockIndex}

/-- A command on a block inside the grid completes with its body. -/
theorem finish_onBlock_of_lt (op : Word48) (d : Done) (hi : i.toNat < s.cnt) :
    finish s (onBlock s op i (.ok d)) = .next (d.state.answer d.rsp d.events) := by
  rw [onBlock, if_neg (Nat.ne_zero_of_lt hi), if_neg hi.not_ge, finish_ok]

/-- Without a grid it faults whatever the index (R294). -/
theorem finish_onBlock_of_no_grid (op : Word48) (body : Except Stop Done) (hcnt : s.cnt = 0) :
    finish s (onBlock s op i body) = .next (s.takeFault .configError op) := by
  rw [onBlock, if_pos hcnt, finish_raised]

theorem finish_onBlock_of_le (op : Word48) (body : Except Stop Done) (hcnt : 0 < s.cnt) (hi : s.cnt ≤ i.toNat) :
    finish s (onBlock s op i body) = .next (s.takeFault .operandRange op) := by
  rw [onBlock, if_neg hcnt.ne', if_pos hi, finish_raised]

variable (hfault : s.fault = none) (i)
include hfault

theorem exec_bccClsnc : exec (.bccClsnc i) s =
    finish s (onBlock s 0x33 i (.ok ⟨s, classField (s.classifyNearest i.toNat), []⟩)) :=
  command_of_running hfault _

theorem exec_bccClsth : exec (.bccClsth i) s =
    finish s (onBlock s 0x34 i (.ok ⟨s, classField (s.classifyThreshold i.toNat), []⟩)) :=
  command_of_running hfault _

theorem exec_bccClassify : exec (.bccClassify i) s =
    finish s (onBlock s 0x35 i (.ok ⟨s, classField (s.classify i.toNat), []⟩)) :=
  command_of_running hfault _

end

/-- Settles O27: each command is the check for a block operand before its strategy's result. -/
theorem blockCommandsClassify : Obligations.BlockCommandsClassify := by
  refine ⟨encodes_bccClsnc, encodes_bccClsth, encodes_bccClassify, fun s i hfault hi => ?_,
    fun s i hfault hcnt => ?_, fun s i hfault hcnt hi => ?_⟩
  all_goals rw [exec_bccClsnc i hfault, exec_bccClsth i hfault, exec_bccClassify i hfault]
  · simp only [finish_onBlock_of_lt _ _ hi]
    rw [← classify_eq_ite]
    exact ⟨⟨_, rfl, congrArg Host.Outcome.next (answer_classField s _)⟩,
      congrArg Host.Outcome.next (answer_classField s _), congrArg Host.Outcome.next (answer_classField s _)⟩
  · exact ⟨finish_onBlock_of_no_grid _ _ hcnt, finish_onBlock_of_no_grid _ _ hcnt,
      finish_onBlock_of_no_grid _ _ hcnt⟩
  · exact ⟨finish_onBlock_of_le _ _ hcnt hi, finish_onBlock_of_le _ _ hcnt hi, finish_onBlock_of_le _ _ hcnt hi⟩

end Sys2Proof.Machine
end

section
/-!
The field of spec/43_reed_solomon.md R160 to R164. Multiplication is linear in each operand, so its laws are checked on
the eight one-bit bytes and carried to every byte by `byte_induction`. That `ALPHA` generates the non-zero elements
(R163) is read from the period of multiplication by it, which divides 255 and none of 15, 51 and 85; inverses (R164)
are powers.
-/

namespace Sys2Proof.Machine

/-! ### Addition (R161) -/

theorem gfAdd_comm (a b : Byte) : gfAdd a b = gfAdd b a := BitVec.xor_comm a b

theorem gfAdd_assoc (a b c : Byte) : gfAdd (gfAdd a b) c = gfAdd a (gfAdd b c) := BitVec.xor_assoc a b c

theorem gfAdd_left_comm (a b c : Byte) : gfAdd a (gfAdd b c) = gfAdd b (gfAdd a c) := by
  rw [← gfAdd_assoc, gfAdd_comm a b, gfAdd_assoc]

@[simp] theorem gfAdd_self (a : Byte) : gfAdd a a = 0 := BitVec.xor_self

theorem gfAdd_zero (a : Byte) : gfAdd a 0 = a := BitVec.xor_zero

theorem zero_gfAdd (a : Byte) : gfAdd 0 a = a := BitVec.zero_xor

@[simp] theorem gfAdd_cancel_left (a b : Byte) : gfAdd a (gfAdd a b) = b := by
  rw [← gfAdd_assoc, gfAdd_self, zero_gfAdd]

/-- Every element is its own negative, so a sum is 0 exactly for equal terms. -/
theorem gfAdd_eq_zero_iff {a b : Byte} : gfAdd a b = 0 ↔ a = b := by
  refine ⟨fun h => ?_, fun h => h ▸ gfAdd_self a⟩
  rw [← gfAdd_cancel_left a b, h, gfAdd_zero]

/-! ### Multiplication is linear in each operand (R162) -/

/-- A conditional addition is linear in the condition and the sum together. -/
theorem ite_xor_xor {n : Nat} (p q : Bool) (x y v : BitVec n) :
    (if (p ^^ q) then (x ^^^ y) ^^^ v else x ^^^ y) = (if p then x ^^^ v else x) ^^^ (if q then y ^^^ v else y) := by
  ext i hi
  cases p <;> cases q <;> simp <;> cases x[i] <;> cases y[i] <;> cases v[i] <;> rfl

theorem gfProduct_add_left (a b c : Byte) : gfProduct (gfAdd a b) c = gfProduct a c ^^^ gfProduct b c := by
  rw [gfProduct, gfProduct, gfProduct, ← List.foldl_hom₂ (op₃ := fun r i =>
    if c.getLsbD i then r ^^^ ((a ^^^ b).setWidth 15 <<< i) else r) (f := (· ^^^ ·))]
  · rfl
  · intro x y i
    rw [BitVec.setWidth_xor, BitVec.shiftLeft_xor_distrib]
    split
    · ac_rfl
    · rfl

theorem gfProduct_add_right (a b c : Byte) : gfProduct a (gfAdd b c) = gfProduct a b ^^^ gfProduct a c := by
  rw [gfProduct, gfProduct, gfProduct, ← List.foldl_hom₂ (op₃ := fun r i =>
    if (b ^^^ c).getLsbD i then r ^^^ (a.setWidth 15 <<< i) else r) (f := (· ^^^ ·))]
  · rfl
  · intro x y i
    simp only [BitVec.getLsbD_xor, ite_xor_xor]

theorem gfReduce_xor (x y : BitVec 15) : gfReduce (x ^^^ y) = gfAdd (gfReduce x) (gfReduce y) := by
  rw [gfReduce, gfReduce, gfReduce, gfAdd, ← BitVec.setWidth_xor, ← List.foldl_hom₂ (f := (· ^^^ ·))]
  intro x y i
  simp only [BitVec.getLsbD_xor, ite_xor_xor]

theorem gfMul_add_left (a b c : Byte) : gfMul (gfAdd a b) c = gfAdd (gfMul a c) (gfMul b c) := by
  rw [gfMul, gfProduct_add_left, gfReduce_xor]
  rfl

theorem gfMul_add_right (a b c : Byte) : gfMul a (gfAdd b c) = gfAdd (gfMul a b) (gfMul a c) := by
  rw [gfMul, gfProduct_add_right, gfReduce_xor]
  rfl

/-! ### The laws, from the one-bit bytes (R162) -/

/-- A byte is the sum of the one-bit bytes of its bits. -/
theorem byte_eq_sum_bits : ∀ a : Byte,
    a = (List.finRange 8).foldl (fun r (i : Fin 8) => gfAdd r (if a.getLsbD i then 1 <<< (i : Nat) else 0)) 0 := by
  decide +kernel

/-- What holds of the one-bit bytes and is kept by addition holds of every byte. -/
theorem byte_induction {p : Byte → Prop} (bit : ∀ i : Fin 8, p (1 <<< (i : Nat)))
    (add : ∀ a b, p a → p b → p (gfAdd a b)) (a : Byte) : p a := by
  have zero : p 0 := gfAdd_self (1 <<< 0) ▸ add _ _ (bit 0) (bit 0)
  rw [byte_eq_sum_bits a]
  refine List.foldlRecOn _ _ zero fun r hr i _ => add _ _ hr ?_
  split
  · exact bit i
  · exact zero

theorem gfMul_comm (a b : Byte) : gfMul a b = gfMul b a := by
  have bits : ∀ i j : Fin 8, gfMul (1 <<< (i : Nat)) (1 <<< (j : Nat)) = gfMul (1 <<< (j : Nat)) (1 <<< (i : Nat)) := by
    decide +kernel
  induction a using byte_induction with
  | add a a' ha ha' => rw [gfMul_add_left, gfMul_add_right, ha, ha']
  | bit i =>
    induction b using byte_induction with
    | add b b' hb hb' => rw [gfMul_add_left, gfMul_add_right, hb, hb']
    | bit j => exact bits i j

theorem gfMul_assoc (a b c : Byte) : gfMul (gfMul a b) c = gfMul a (gfMul b c) := by
  have bits : ∀ i j k : Fin 8, gfMul (gfMul (1 <<< (i : Nat)) (1 <<< (j : Nat))) (1 <<< (k : Nat)) =
      gfMul (1 <<< (i : Nat)) (gfMul (1 <<< (j : Nat)) (1 <<< (k : Nat))) := by
    decide +kernel
  induction a using byte_induction with
  | add a a' ha ha' => simp only [gfMul_add_left, ha, ha']
  | bit i =>
    induction b using byte_induction with
    | add b b' hb hb' => simp only [gfMul_add_left, gfMul_add_right, hb, hb']
    | bit j =>
      induction c using byte_induction with
      | add c c' hc hc' => simp only [gfMul_add_right, hc, hc']
      | bit k => exact bits i j k

theorem gfMul_left_comm (a b c : Byte) : gfMul a (gfMul b c) = gfMul b (gfMul a c) := by
  rw [← gfMul_assoc, gfMul_comm a b, gfMul_assoc]

theorem gfMul_zero (a : Byte) : gfMul a 0 = 0 := by
  rw [← gfAdd_self 0, gfMul_add_right, gfAdd_self, gfAdd_self]

theorem zero_gfMul (a : Byte) : gfMul 0 a = 0 := by rw [gfMul_comm, gfMul_zero]

theorem gfMul_one (a : Byte) : gfMul a 1 = a := by
  induction a using byte_induction with
  | add a b ha hb => rw [gfMul_add_left, ha, hb]
  | bit i => revert i; decide +kernel

theorem one_gfMul (a : Byte) : gfMul 1 a = a := by rw [gfMul_comm, gfMul_one]

/-- Multiplication by `x` is a shift, reduced by 0x1D when bit 7 leaves the byte. -/
theorem gfMul_two (a : Byte) : gfMul a 0x02 = if a.getLsbD 7 then (a <<< 1) ^^^ 0x1D else a <<< 1 := by
  induction a using byte_induction with
  | add a b ha hb =>
    rw [gfMul_add_left, ha, hb]
    simp only [gfAdd, BitVec.getLsbD_xor, BitVec.shiftLeft_xor_distrib, ite_xor_xor]
  | bit i => revert i; decide +kernel

/-! ### Powers (R163) -/

@[simp] theorem gfPow_zero (a : Byte) : gfPow a 0 = 1 := rfl

theorem gfPow_succ (a : Byte) (n : Nat) : gfPow a (n + 1) = gfMul (gfPow a n) a := rfl

theorem gfPow_add (a : Byte) (m n : Nat) : gfPow a (m + n) = gfMul (gfPow a m) (gfPow a n) := by
  induction n with
  | zero => exact (gfMul_one _).symm
  | succ n ih => rw [← Nat.add_assoc, gfPow_succ, ih, gfPow_succ, gfMul_assoc]

theorem gfPow_mul (a : Byte) (m n : Nat) : gfPow a (m * n) = gfPow (gfPow a m) n := by
  induction n with
  | zero => rfl
  | succ n ih => rw [Nat.mul_succ, gfPow_add, ih, gfPow_succ]

theorem one_gfPow (n : Nat) : gfPow 1 n = 1 := by
  induction n with
  | zero => rfl
  | succ n ih => rw [gfPow_succ, ih, gfMul_one]

theorem gfMul_self (a : Byte) : gfMul a a = gfPow a 2 := by rw [gfPow_succ, gfPow_succ, gfPow_zero, one_gfMul]

/-- A power as a repeated multiplication, for Mathlib's lemmas on periods. -/
theorem gfPow_eq_iterate (a : Byte) (n : Nat) : gfPow a n = (gfMul · a)^[n] 1 := by
  induction n with
  | zero => rfl
  | succ n ih => rw [gfPow_succ, ih, Function.iterate_succ_apply']

theorem isPeriodicPt_gfMul_iff {a : Byte} {n : Nat} : Function.IsPeriodicPt (gfMul · a) n 1 ↔ gfPow a n = 1 := by
  rw [gfPow_eq_iterate]
  rfl

/-- The seven squarings of `gfInv` make the power 2 + 4 + 8 + 16 + 32 + 64 + 128 (R164). -/
theorem gfInv_eq_pow (a : Byte) : gfInv a = gfPow a 254 := by
  simp only [gfInv, gfSquare, gfMul_self, ← gfPow_mul, ← gfPow_add]

theorem gfInv_alpha : gfInv 0x02 = 0x8E := by decide +kernel

theorem alpha_pow_255 : gfPow 0x02 255 = 1 := by
  rw [gfPow_succ, ← gfInv_eq_pow, gfInv_alpha]
  decide

/-- `ALPHA` has the full order: a smaller one would divide 255 / 3, 255 / 5 or 255 / 17. -/
theorem minimalPeriod_alpha : Function.minimalPeriod (gfMul · 0x02) 1 = 255 := by
  have hproper : ∀ d ∈ Nat.divisors 255, d ∣ 85 ∨ d ∣ 51 ∨ d ∣ 15 ∨ d = 255 := by
    simp only [Nat.divisors_ofNat]
    decide
  obtain ⟨h85, h51, h15⟩ : gfPow 0x02 (5 * 17) ≠ 1 ∧ gfPow 0x02 (3 * 17) ≠ 1 ∧ gfPow 0x02 15 ≠ 1 := by
    rw [gfPow_mul, gfPow_mul]
    decide +kernel
  have hdvd : ∀ {n}, Function.minimalPeriod (gfMul · 0x02) 1 ∣ n ↔ gfPow 0x02 n = 1 := by
    intro n
    rw [← isPeriodicPt_gfMul_iff, Function.isPeriodicPt_iff_minimalPeriod_dvd]
  obtain h | h | h | h := hproper _ (Nat.mem_divisors.mpr ⟨hdvd.mpr alpha_pow_255, by decide⟩)
  · exact absurd (hdvd.mp h) h85
  · exact absurd (hdvd.mp h) h51
  · exact absurd (hdvd.mp h) h15
  · exact h

theorem alpha_pow_injOn {m n : Nat} (hm : m < 255) (hn : n < 255) (h : gfPow 0x02 m = gfPow 0x02 n) : m = n := by
  rw [gfPow_eq_iterate, gfPow_eq_iterate] at h
  refine Function.iterate_injOn_Iio_minimalPeriod (f := (gfMul · 0x02)) (x := 1) ?_ ?_ h
  all_goals rw [minimalPeriod_alpha]
  · exact hm
  · exact hn

theorem alpha_pow_ne_zero {n : Nat} (hn : n < 255) : gfPow 0x02 n ≠ 0 := by
  intro h
  have hone : gfPow 0x02 255 = 0 := by
    rw [← Nat.add_sub_of_le hn.le, gfPow_add, h, zero_gfMul]
  exact absurd (alpha_pow_255.symm.trans hone) (by decide)

/-- The 255 powers are different and non-zero, so they leave no non-zero element out. -/
theorem exists_alpha_pow_eq {a : Byte} (ha : a ≠ 0) : ∃ n, n < 255 ∧ gfPow 0x02 n = a := by
  have hsubset : (Finset.range 255).image (gfPow 0x02) ⊆ Finset.univ.erase 0 := by
    intro b hb
    obtain ⟨n, hn, rfl⟩ := Finset.mem_image.mp hb
    exact Finset.mem_erase.mpr ⟨alpha_pow_ne_zero (Finset.mem_range.mp hn), Finset.mem_univ _⟩
  have hcard : ((Finset.range 255).image (gfPow 0x02)).card = 255 := by
    rw [Finset.card_image_of_injOn fun m hm n hn => alpha_pow_injOn (by simpa using hm) (by simpa using hn),
      Finset.card_range]
  have huniv : ((Finset.univ : Finset Byte).erase 0).card = 255 := by decide +kernel
  have hmem : a ∈ (Finset.range 255).image (gfPow 0x02) := by
    rw [Finset.eq_of_subset_of_card_le hsubset (by rw [hcard, huniv])]
    exact Finset.mem_erase.mpr ⟨ha, Finset.mem_univ _⟩
  obtain ⟨n, hn, hna⟩ := Finset.mem_image.mp hmem
  exact ⟨n, Finset.mem_range.mp hn, hna⟩

/-- Settles O33, from the order of `ALPHA`. -/
theorem alphaIsPrimitive : Obligations.AlphaIsPrimitive := by
  refine ⟨gfPow_zero, gfPow_succ, fun m n => alpha_pow_injOn, fun a => ⟨exists_alpha_pow_eq, ?_⟩, alpha_pow_255,
    by decide +kernel, by decide +kernel, (gfInv_eq_pow _).symm.trans gfInv_alpha⟩
  rintro ⟨n, hn, rfl⟩
  exact alpha_pow_ne_zero hn

/-! ### Inverses (R164) -/

theorem pow_255_of_ne_zero {a : Byte} (ha : a ≠ 0) : gfPow a 255 = 1 := by
  obtain ⟨n, -, rfl⟩ := exists_alpha_pow_eq ha
  rw [← gfPow_mul, Nat.mul_comm, gfPow_mul, alpha_pow_255, one_gfPow]

theorem gfMul_gfInv {a : Byte} (ha : a ≠ 0) : gfMul a (gfInv a) = 1 := by
  rw [gfInv_eq_pow, gfMul_comm, ← gfPow_succ, pow_255_of_ne_zero ha]

theorem eq_gfInv_of_gfMul_eq_one {a b : Byte} (ha : a ≠ 0) (h : gfMul a b = 1) : b = gfInv a := by
  rw [← gfMul_one (gfInv a), ← h, gfMul_left_comm, ← gfMul_assoc, gfMul_gfInv ha, one_gfMul]

/-- Settles O32: the laws come from linearity, the inverses from the powers of `ALPHA`. -/
theorem bytesFormTheField : Obligations.BytesFormTheField :=
  ⟨fun _ _ => rfl, gfAdd_self, gfMul_zero, gfMul_one, gfMul_two, gfMul_comm, gfMul_assoc, gfMul_add_right,
    fun a ha => ⟨gfMul_gfInv ha, gfInv_eq_pow a, fun _ => eq_gfInv_of_gfMul_eq_one ha⟩,
    gfInv_alpha, by decide +kernel, by decide +kernel⟩

end Sys2Proof.Machine
end

section
/-!
Bounded-distance correction (spec/43_reed_solomon.md R182, R183). The syndromes of a sequence are the weighted sums of
its bytes with the powers of the locators. `peel x` takes the locator `x` out of such sums at the price of one of them
and of a factor `z + x` on the byte at every other locator `z`. From this come both halves of the search: it finds only
errors that have the syndromes and finds one where there is one, and `n` sums determine an error up to weight `n / 2`.
-/

namespace Sys2Proof.Machine

/-! ### Sums of field elements -/

@[simp] theorem gfSum_cons (a : Byte) (l : List Byte) : gfSum (a :: l) = gfAdd a (gfSum l) := rfl

theorem gfSum_zipWith_gfAdd {a b : List Byte} (h : a.length = b.length) :
    gfSum (List.zipWith gfAdd a b) = gfAdd (gfSum a) (gfSum b) := by
  induction a generalizing b with
  | nil => rw [List.length_eq_zero_iff.mp h.symm]; rfl
  | cons x a ih =>
    obtain ⟨y, b, rfl⟩ := List.exists_cons_of_length_eq_add_one h.symm
    rw [List.zipWith_cons_cons, gfSum_cons, ih (Nat.succ_inj.mp h), gfSum_cons, gfSum_cons]
    simp only [gfAdd_assoc, gfAdd_left_comm]

theorem zipWith_gfAdd_cancel_left {a b : List Byte} (h : a.length = b.length) :
    List.zipWith gfAdd a (List.zipWith gfAdd a b) = b := by
  induction a generalizing b with
  | nil => exact (List.length_eq_zero_iff.mp h.symm).symm
  | cons x a ih =>
    obtain ⟨y, b, rfl⟩ := List.exists_cons_of_length_eq_add_one h.symm
    rw [List.zipWith_cons_cons, List.zipWith_cons_cons, gfAdd_cancel_left, ih (Nat.succ_inj.mp h)]

/-! ### Weight and distance (R182) -/

/-- The number of non-zero bytes of a sequence. -/
def weight (e : List Byte) : Nat := e.countP fun y => decide (y ≠ 0)

@[simp] theorem weight_nil : weight [] = 0 := rfl

theorem weight_cons_zero (e : List Byte) : weight (0 :: e) = weight e := List.countP_cons_of_neg (by decide)

theorem weight_cons_of_ne_zero {y : Byte} (hy : y ≠ 0) (e : List Byte) : weight (y :: e) = weight e + 1 :=
  List.countP_cons_of_pos (decide_eq_true hy)

theorem weight_cons_le (y : Byte) (e : List Byte) : weight (y :: e) ≤ weight e + 1 := by
  by_cases hy : y = 0
  · rw [hy, weight_cons_zero]
    exact Nat.le_succ _
  · exact (weight_cons_of_ne_zero hy e).le

theorem hammingDist_eq_weight (a b : List Byte) : hammingDist a b = weight (List.zipWith gfAdd a b) := by
  rw [hammingDist, weight, ← List.countP_eq_length_filter, ← List.map_uncurry_zip_eq_zipWith, List.countP_map]
  refine List.countP_congr fun q _ => ?_
  simp only [Function.comp_apply, Function.uncurry_def, decide_eq_true_eq, ne_eq, gfAdd_eq_zero_iff]

@[simp] theorem hammingDist_self (a : List Byte) : hammingDist a a = 0 := by
  rw [hammingDist_eq_weight, weight, List.countP_eq_zero]
  simp [List.zipWith_self]

theorem weight_zipWith_gfAdd_le (a b : List Byte) : weight (List.zipWith gfAdd a b) ≤ weight a + weight b := by
  induction a generalizing b with
  | nil => exact Nat.zero_le _
  | cons x a ih =>
    cases b with
    | nil => exact Nat.zero_le _
    | cons y b =>
      have hab := ih b
      have hsum := weight_cons_le (gfAdd x y) (List.zipWith gfAdd a b)
      rw [List.zipWith_cons_cons]
      by_cases hx : x = 0
      · by_cases hy : y = 0
        · rwa [hx, hy, gfAdd_self, weight_cons_zero, weight_cons_zero, weight_cons_zero]
        · rw [hx, weight_cons_zero, weight_cons_of_ne_zero hy]
          rw [hx] at hsum
          omega
      · have hb : weight b ≤ weight (y :: b) := (List.sublist_cons_self y b).countP_le
        rw [weight_cons_of_ne_zero hx]
        omega

/-- Sequences of one length are equal when their sum is 0. -/
theorem eq_of_weight_zipWith_eq_zero {a b : List Byte} (h : a.length = b.length)
    (hw : weight (List.zipWith gfAdd a b) = 0) : a = b := by
  rw [weight, List.countP_eq_zero] at hw
  refine List.ext_getElem h fun i ha hb => gfAdd_eq_zero_iff.mp ?_
  have hi : i < (List.zipWith gfAdd a b).length := by simp [ha, hb]
  simpa only [decide_not, Bool.not_eq_true', decide_eq_false_iff_not, not_not, List.getElem_zipWith] using
    hw _ (List.getElem_mem hi)

/-! ### Bytes multiplied by a function of their locators -/

/-- Each byte of `e` times `f` of its locator. -/
def scaled (f : Byte → Byte) (xs e : List Byte) : List Byte := List.zipWith (fun z y => gfMul y (f z)) xs e

@[simp] theorem scaled_cons (f : Byte → Byte) (x y : Byte) (xs e : List Byte) :
    scaled f (x :: xs) (y :: e) = gfMul y (f x) :: scaled f xs e := rfl

theorem length_scaled {xs e : List Byte} (f : Byte → Byte) (h : e.length = xs.length) :
    (scaled f xs e).length = xs.length := by
  rw [scaled, List.length_zipWith, h, Nat.min_self]

theorem weight_scaled_le (f : Byte → Byte) (xs e : List Byte) : weight (scaled f xs e) ≤ weight e := by
  induction xs generalizing e with
  | nil => exact Nat.zero_le _
  | cons x xs ih =>
    cases e with
    | nil => exact Nat.le_refl _
    | cons y e =>
      rw [scaled_cons]
      by_cases hy : y = 0
      · rw [hy, zero_gfMul, weight_cons_zero, weight_cons_zero]
        exact ih e
      · rw [weight_cons_of_ne_zero hy]
        exact (weight_cons_le _ _).trans (Nat.succ_le_succ (ih e))

/-- A scaling by non-zero factors is undone by that with the inverse factors. -/
theorem scaled_inverse {f g : Byte → Byte} {xs e : List Byte} (h : e.length = xs.length)
    (hfg : ∀ z ∈ xs, gfMul (f z) (g z) = 1) : scaled g xs (scaled f xs e) = e := by
  induction xs generalizing e with
  | nil => exact (List.length_eq_zero_iff.mp h).symm
  | cons x xs ih =>
    obtain ⟨y, e, rfl⟩ := List.exists_cons_of_length_eq_add_one h
    obtain ⟨hx, hxs⟩ := List.forall_mem_cons.mp hfg
    rw [scaled_cons, scaled_cons, gfMul_assoc, hx, gfMul_one, ih (Nat.succ_inj.mp h) hxs]

/-! ### Power sums -/

/-- The sum of the bytes of `e`, each times the power `j` of its locator. -/
def powerSum (xs e : List Byte) (j : Nat) : Byte := gfSum (scaled (gfPow · j) xs e)

/-- The power sums `0 .. n-1`. -/
def powerSums (n : Nat) (xs e : List Byte) : List Byte := (List.range n).map (powerSum xs e)

theorem powerSum_cons (x y : Byte) (xs e : List Byte) (j : Nat) :
    powerSum (x :: xs) (y :: e) j = gfAdd (gfMul y (gfPow x j)) (powerSum xs e j) := rfl

theorem powerSum_cons_zero (x : Byte) (xs e : List Byte) (j : Nat) :
    powerSum (x :: xs) (0 :: e) j = powerSum xs e j := by
  rw [powerSum_cons, zero_gfMul, zero_gfAdd]

@[simp] theorem length_powerSums (n : Nat) (xs e : List Byte) : (powerSums n xs e).length = n := by simp [powerSums]

@[simp] theorem getElem_powerSums {n j : Nat} (xs e : List Byte) (h : j < (powerSums n xs e).length) :
    (powerSums n xs e)[j] = powerSum xs e j := by
  simp [powerSums]

/-- The first power sum is the plain sum. -/
theorem headD_powerSums {xs e : List Byte} (n : Nat) (h : e.length = xs.length) :
    (powerSums (n + 1) xs e).headD 0 = gfSum e := by
  have hone : scaled (gfPow · 0) xs e = e := by
    refine List.ext_getElem (by rw [length_scaled _ h, h]) fun i _ _ => ?_
    simp only [scaled, List.getElem_zipWith, gfPow_zero, gfMul_one]
  rw [powerSums, List.range_succ_eq_map, List.map_cons, List.headD_cons, powerSum, hone]

theorem powerSums_congr {n : Nat} {xs e xs' e' : List Byte} (h : ∀ j < n, powerSum xs e j = powerSum xs' e' j) :
    powerSums n xs e = powerSums n xs' e' :=
  List.map_congr_left fun j hj => h j (List.mem_range.mp hj)

theorem powerSum_eq_of_powerSums_eq {n : Nat} {xs e xs' e' : List Byte} (h : powerSums n xs e = powerSums n xs' e')
    {j : Nat} (hj : j < n) : powerSum xs e j = powerSum xs' e' j :=
  List.map_inj_left.mp h j (List.mem_range.mpr hj)

theorem powerSum_zipWith_gfAdd {xs a b : List Byte} (ha : a.length = xs.length) (hb : b.length = xs.length) (j : Nat) :
    powerSum xs (List.zipWith gfAdd a b) j = gfAdd (powerSum xs a j) (powerSum xs b j) := by
  have hscaled : scaled (gfPow · j) xs (List.zipWith gfAdd a b) =
      List.zipWith gfAdd (scaled (gfPow · j) xs a) (scaled (gfPow · j) xs b) := by
    refine List.ext_getElem (by simp [scaled, ha, hb]) fun i _ _ => ?_
    simp [scaled, gfMul_add_left]
  rw [powerSum, hscaled, gfSum_zipWith_gfAdd (by rw [length_scaled _ ha, length_scaled _ hb])]
  rfl

theorem powerSum_eq_zero_of_weight {e : List Byte} (h : weight e = 0) (xs : List Byte) (j : Nat) :
    powerSum xs e j = 0 := by
  induction e generalizing xs with
  | nil => cases xs <;> rfl
  | cons y e ih =>
    cases xs with
    | nil => rfl
    | cons x xs =>
      by_cases hy : y = 0
      · rw [hy, powerSum_cons_zero]
        exact ih (by rwa [hy, weight_cons_zero] at h) xs
      · rw [weight_cons_of_ne_zero hy] at h
        cases h

/-- The factor `z + x` on each byte combines neighbouring power sums as `peel x` does. -/
theorem powerSum_scaled_gfAdd (x : Byte) (xs e : List Byte) (j : Nat) :
    powerSum xs (scaled (gfAdd · x) xs e) j = gfAdd (powerSum xs e (j + 1)) (gfMul x (powerSum xs e j)) := by
  induction xs generalizing e with
  | nil => exact ((zero_gfAdd _).trans (gfMul_zero x)).symm
  | cons z xs ih =>
    cases e with
    | nil => exact ((zero_gfAdd _).trans (gfMul_zero x)).symm
    | cons y e =>
      have hterm : gfMul (gfMul y (gfAdd z x)) (gfPow z j) =
          gfAdd (gfMul y (gfPow z (j + 1))) (gfMul x (gfMul y (gfPow z j))) := by
        rw [gfMul_add_right, gfMul_add_left, gfPow_succ, gfMul_assoc, gfMul_comm z, gfMul_comm y x, gfMul_assoc]
      rw [scaled_cons, powerSum_cons, ih, hterm, powerSum_cons, powerSum_cons, gfMul_add_right]
      simp only [gfAdd_assoc, gfAdd_left_comm]

/-! ### Taking a locator out of the power sums -/

@[simp] theorem length_peel (x : Byte) (S : List Byte) : (peel x S).length = S.length - 1 := by
  induction S with
  | nil => rfl
  | cons s S ih =>
    cases S with
    | nil => rfl
    | cons s' S => rw [peel, List.length_cons, ih]; rfl

theorem peel_eq_zipWith (x : Byte) (S : List Byte) :
    peel x S = List.zipWith (fun s s' => gfAdd s' (gfMul x s)) S S.tail := by
  induction S with
  | nil => rfl
  | cons s S ih =>
    cases S with
    | nil => rfl
    | cons s' S => rw [peel, ih]; rfl

/-- With the first sum the others can be had back. -/
theorem eq_of_peel_eq {x : Byte} {S S' : List Byte} (hlen : S.length = S'.length) (hhead : S.headD 0 = S'.headD 0)
    (hpeel : peel x S = peel x S') : S = S' := by
  induction S generalizing S' with
  | nil => exact (List.length_eq_zero_iff.mp hlen.symm).symm
  | cons s S ih =>
    obtain ⟨s', S', rfl⟩ := List.exists_cons_of_length_eq_add_one hlen.symm
    obtain rfl : s = s' := hhead
    rw [List.cons.injEq]
    refine ⟨rfl, ?_⟩
    cases S with
    | nil => exact (List.length_eq_zero_iff.mp (Nat.succ_inj.mp hlen).symm).symm
    | cons u S =>
      obtain ⟨v, S', rfl⟩ := List.exists_cons_of_length_eq_add_one (Nat.succ_inj.mp hlen).symm
      rw [peel, peel, List.cons.injEq] at hpeel
      obtain ⟨huv, htail⟩ := hpeel
      refine ih (Nat.succ_inj.mp hlen) ?_ htail
      rw [gfAdd_comm u, gfAdd_comm v] at huv
      have hcancel := congrArg (gfAdd (gfMul x s)) huv
      rwa [gfAdd_cancel_left, gfAdd_cancel_left] at hcancel

theorem peel_powerSums (x : Byte) (n : Nat) (xs e : List Byte) :
    peel x (powerSums n xs e) = powerSums (n - 1) xs (scaled (gfAdd · x) xs e) := by
  refine List.ext_getElem (by simp) fun j _ _ => ?_
  simp [peel_eq_zipWith, powerSums, powerSum_scaled_gfAdd]

/-- An error at the locator itself is gone. -/
theorem peel_powerSums_cons (x y : Byte) (n : Nat) (xs e : List Byte) :
    peel x (powerSums n (x :: xs) (y :: e)) = powerSums (n - 1) xs (scaled (gfAdd · x) xs e) := by
  rw [peel_powerSums, scaled_cons, gfAdd_self, gfMul_zero]
  exact powerSums_congr fun j _ => powerSum_cons_zero x xs _ j

/-- The error byte that the first sum asks for at the locator taken out. -/
theorem eq_powerSums_of_peel {x : Byte} {S xs e : List Byte} (hlen : e.length = xs.length)
    (hpeel : peel x S = powerSums (S.length - 1) xs (scaled (gfAdd · x) xs e)) :
    S = powerSums S.length (x :: xs) (gfAdd (S.headD 0) (gfSum e) :: e) := by
  refine eq_of_peel_eq (x := x) (length_powerSums ..).symm ?_ (by rw [hpeel, peel_powerSums_cons])
  cases S with
  | nil => rfl
  | cons s S =>
    rw [List.length_cons, headD_powerSums _ (congrArg (· + 1) hlen), gfSum_cons, gfAdd_assoc, gfAdd_self, gfAdd_zero]

/-! ### Power sums determine an error of small weight -/

theorem gfAdd_ne_zero_of_not_mem {x z : Byte} {xs : List Byte} (hx : x ∉ xs) (hz : z ∈ xs) : gfAdd z x ≠ 0 :=
  fun h => hx (gfAdd_eq_zero_iff.mp h ▸ hz)

/-- `n` power sums that are 0 leave no error of weight at most `n` but 0: take the locator of one error byte out. -/
theorem weight_eq_zero_of_powerSum {n : Nat} {xs e : List Byte} (hxs : xs.Nodup) (hlen : e.length = xs.length)
    (hw : weight e ≤ n) (hsum : ∀ j < n, powerSum xs e j = 0) : weight e = 0 := by
  induction xs generalizing n e with
  | nil => rw [List.length_eq_zero_iff.mp hlen, weight_nil]
  | cons x xs ih =>
    obtain ⟨y, e, rfl⟩ := List.exists_cons_of_length_eq_add_one hlen
    obtain ⟨hx, hxs⟩ := List.nodup_cons.mp hxs
    have hlen' : e.length = xs.length := Nat.succ_inj.mp hlen
    by_cases hy : y = 0
    · subst hy
      rw [weight_cons_zero] at hw ⊢
      exact ih hxs hlen' hw fun j hj => (powerSum_cons_zero x xs e j).symm.trans (hsum j hj)
    · exfalso
      rw [weight_cons_of_ne_zero hy] at hw
      obtain ⟨m, rfl⟩ : ∃ m, n = m + 1 := ⟨n - 1, by omega⟩
      have hpeeled : weight (scaled (gfAdd · x) xs e) = 0 := by
        refine ih hxs (length_scaled _ hlen') ((weight_scaled_le _ _ _).trans (Nat.le_of_succ_le_succ hw))
          fun j hj => ?_
        have hshift := powerSum_scaled_gfAdd x (x :: xs) (y :: e) j
        rw [scaled_cons, gfAdd_self, gfMul_zero, powerSum_cons_zero, hsum _ (Nat.succ_lt_succ hj),
          hsum _ (Nat.lt_succ_of_lt hj), gfMul_zero, gfAdd_self] at hshift
        exact hshift
      have hrest : weight e = 0 := by
        rw [← scaled_inverse hlen' fun z hz => gfMul_gfInv (gfAdd_ne_zero_of_not_mem hx hz)]
        exact Nat.le_zero.mp (hpeeled ▸ weight_scaled_le _ _ _)
      have hfirst := hsum 0 (Nat.succ_pos m)
      rw [powerSum_cons, powerSum_eq_zero_of_weight hrest, gfPow_zero, gfMul_one, gfAdd_zero] at hfirst
      exact hy hfirst

theorem eq_of_powerSums_eq {n : Nat} {xs a b : List Byte} (hxs : xs.Nodup) (ha : a.length = xs.length)
    (hb : b.length = xs.length) (hw : weight a + weight b ≤ n) (h : powerSums n xs a = powerSums n xs b) : a = b := by
  refine eq_of_weight_zipWith_eq_zero (ha.trans hb.symm) (weight_eq_zero_of_powerSum hxs (by simp [ha, hb])
    ((weight_zipWith_gfAdd_le a b).trans hw) fun j hj => ?_)
  rw [powerSum_zipWith_gfAdd ha hb, powerSum_eq_of_powerSums_eq h hj, gfAdd_self]

/-! ### The error search -/

theorem errorSearch_cons_of_some {x : Byte} {xs S e : List Byte} {t : Nat} (h : errorSearch xs t S = some e) :
    errorSearch (x :: xs) t S = some (0 :: e) := by
  unfold errorSearch
  rw [h]

theorem isSome_errorSearch_cons_of_peel {x : Byte} {xs S : List Byte} {t : Nat}
    (h : (errorSearch xs t (peel x S)).isSome) : (errorSearch (x :: xs) (t + 1) S).isSome := by
  rw [errorSearch]
  split
  · rfl
  · obtain ⟨e, he⟩ := Option.isSome_iff_exists.mp h
    rw [he]
    rfl

/-- With all syndromes 0 no error is found. -/
theorem errorSearch_zero (xs : List Byte) (t : Nat) {S : List Byte} (hS : ∀ v ∈ S, v = 0) :
    errorSearch xs t S = some (List.replicate xs.length 0) := by
  induction xs with
  | nil => exact (errorSearch_nil t S _).mpr ⟨hS, rfl⟩
  | cons x xs ih => exact errorSearch_cons_of_some ih

/-- What the search finds is an error of weight at most `t` that has the syndromes. -/
theorem errorSearch_sound {xs S e : List Byte} {t : Nat} (hxs : xs.Nodup) (h : errorSearch xs t S = some e) :
    e.length = xs.length ∧ weight e ≤ t ∧ S = powerSums S.length xs e := by
  induction xs generalizing t S e with
  | nil =>
    obtain ⟨hS, rfl⟩ := (errorSearch_nil t S e).mp h
    refine ⟨rfl, Nat.zero_le t, List.ext_getElem (by simp) fun j hj _ => ?_⟩
    rw [hS _ (List.getElem_mem hj), getElem_powerSums]
    rfl
  | cons x xs ih =>
    obtain ⟨hx, hxs⟩ := List.nodup_cons.mp hxs
    obtain ⟨e', he', rfl⟩ | ⟨t', e', rfl, -, he', rfl⟩ := errorSearch_cons h
    · obtain ⟨hlen, hw, hS⟩ := ih hxs he'
      exact ⟨congrArg (· + 1) hlen, by rwa [weight_cons_zero],
        hS.trans (powerSums_congr fun j _ => (powerSum_cons_zero x xs e' j).symm)⟩
    · obtain ⟨hlen, hw, hS⟩ := ih hxs he'
      have hinverse : scaled (gfAdd · x) xs (scaled (fun z => gfInv (gfAdd z x)) xs e') = e' :=
        scaled_inverse hlen fun z hz => (gfMul_comm _ _).trans (gfMul_gfInv (gfAdd_ne_zero_of_not_mem hx hz))
      refine ⟨congrArg (· + 1) (length_scaled _ hlen),
        (weight_cons_le _ _).trans (Nat.succ_le_succ ((weight_scaled_le _ _ _).trans hw)),
        eq_powerSums_of_peel (length_scaled _ hlen) ?_⟩
      rw [hS, length_peel]
      exact congrArg _ hinverse.symm

/-- Where there is such an error the search finds one. -/
theorem isSome_errorSearch {xs e : List Byte} {t : Nat} (n : Nat) (hlen : e.length = xs.length) (hw : weight e ≤ t) :
    (errorSearch xs t (powerSums n xs e)).isSome := by
  induction xs generalizing n t e with
  | nil =>
    refine Option.isSome_iff_exists.mpr ⟨[], (errorSearch_nil t _ _).mpr ⟨fun v hv => ?_, rfl⟩⟩
    obtain ⟨j, -, rfl⟩ := List.mem_map.mp hv
    rfl
  | cons x xs ih =>
    obtain ⟨y, e, rfl⟩ := List.exists_cons_of_length_eq_add_one hlen
    have hlen' : e.length = xs.length := Nat.succ_inj.mp hlen
    by_cases hy : y = 0
    · subst hy
      rw [weight_cons_zero] at hw
      rw [powerSums_congr fun j _ => powerSum_cons_zero x xs e j]
      obtain ⟨e', he'⟩ := Option.isSome_iff_exists.mp (ih n hlen' hw)
      rw [errorSearch_cons_of_some he']
      rfl
    · rw [weight_cons_of_ne_zero hy] at hw
      obtain ⟨t, rfl⟩ : ∃ t', t = t' + 1 := ⟨t - 1, by omega⟩
      refine isSome_errorSearch_cons_of_peel ?_
      rw [peel_powerSums_cons]
      exact ih _ (length_scaled _ hlen') ((weight_scaled_le _ _ _).trans (Nat.le_of_succ_le_succ hw))

/-- With at least `2 * t` syndromes it finds exactly the error. -/
theorem errorSearch_powerSums {xs e : List Byte} {n t : Nat} (hxs : xs.Nodup) (hlen : e.length = xs.length)
    (hw : weight e ≤ t) (ht : 2 * t ≤ n) : errorSearch xs t (powerSums n xs e) = some e := by
  obtain ⟨e', he'⟩ := Option.isSome_iff_exists.mp (isSome_errorSearch n hlen hw)
  obtain ⟨hlen', hw', hsum⟩ := errorSearch_sound hxs he'
  rw [length_powerSums] at hsum
  rw [he', eq_of_powerSums_eq hxs hlen hlen' (by omega) hsum]

/-! ### Locators and syndromes (R165, R167) -/

@[simp] theorem length_locators (n : Nat) : (locators n).length = n := by
  induction n with
  | zero => rfl
  | succ n ih => rw [locators, List.length_cons, ih]

theorem exists_of_mem_locators {n : Nat} {x : Byte} (h : x ∈ locators n) : ∃ m < n, x = gfPow 0x02 m := by
  induction n with
  | zero => cases h
  | succ n ih =>
    obtain rfl | h := List.mem_cons.mp h
    · exact ⟨n, Nat.lt_succ_self n, rfl⟩
    · obtain ⟨m, hm, hx⟩ := ih h
      exact ⟨m, Nat.lt_succ_of_lt hm, hx⟩

/-- The positions of a sequence of at most 255 bytes have different locators. -/
theorem nodup_locators {n : Nat} (hn : n ≤ 255) : (locators n).Nodup := by
  induction n with
  | zero => exact List.nodup_nil
  | succ n ih =>
    refine List.nodup_cons.mpr ⟨fun h => ?_, ih (Nat.le_of_succ_le hn)⟩
    obtain ⟨m, hm, hpow⟩ := exists_of_mem_locators h
    exact hm.ne' (alpha_pow_injOn hn (hm.trans hn) hpow)

/-- Horner's rule, with what stands in the accumulator. -/
theorem foldl_horner (r : List Byte) (j : Nat) (acc : Byte) :
    r.foldl (fun acc v => gfAdd (gfMul acc (gfPow 0x02 j)) v) acc =
      gfAdd (gfMul acc (gfPow (gfPow 0x02 j) r.length)) (powerSum (locators r.length) r j) := by
  induction r generalizing acc with
  | nil => exact ((gfAdd_zero _).trans (gfMul_one acc)).symm
  | cons v r ih =>
    have hpow : gfPow (gfPow Config.alpha r.length) j = gfPow (gfPow 0x02 j) r.length := by
      rw [← gfPow_mul, ← gfPow_mul, Nat.mul_comm]
      rfl
    rw [List.foldl_cons, ih, List.length_cons, locators, powerSum_cons, hpow, gfMul_add_left, gfAdd_assoc,
      gfPow_succ, gfMul_assoc, gfMul_comm (gfPow 0x02 j)]

theorem syndrome_eq_powerSum (r : List Byte) (j : Nat) : syndrome r j = powerSum (locators r.length) r j := by
  have hfcr : Config.fcr + j = j := Nat.zero_add j
  rw [syndrome, polyEval, hfcr, Config.alpha, foldl_horner, zero_gfMul, zero_gfAdd]

theorem syndromes_eq_powerSums (P : Nat) (r : List Byte) : syndromes P r = powerSums P (locators r.length) r :=
  List.map_congr_left fun j _ => syndrome_eq_powerSum r j

theorem isCodeword_iff_syndrome {P : Nat} {r : List Byte} : isCodeword P r = true ↔ ∀ j < P, syndrome r j = 0 := by
  simp [isCodeword, syndromes]

/-- A sequence becomes a codeword exactly by an error with its own syndromes. -/
theorem isCodeword_zipWith_gfAdd_iff {P : Nat} {r e : List Byte} (h : e.length = r.length) :
    isCodeword P (List.zipWith gfAdd r e) = true ↔ syndromes P r = powerSums P (locators r.length) e := by
  have hlen : (List.zipWith gfAdd r e).length = r.length := by simp [h]
  have hsum : ∀ j, syndrome (List.zipWith gfAdd r e) j = 0 ↔
      powerSum (locators r.length) r j = powerSum (locators r.length) e j := by
    intro j
    rw [syndrome_eq_powerSum, hlen, powerSum_zipWith_gfAdd (by simp) (by simp [h]), gfAdd_eq_zero_iff]
  rw [isCodeword_iff_syndrome, syndromes_eq_powerSums]
  exact ⟨fun hz => powerSums_congr fun j hj => (hsum j).mp (hz j hj),
    fun he j hj => (hsum j).mpr (powerSum_eq_of_powerSums_eq he hj)⟩

/-! ### Correction (R183) -/

theorem rsCorrect_eq_some_iff_errorSearch {P : Nat} {r c : List Byte} :
    rsCorrect P r = some c ↔
      ∃ e, errorSearch (locators r.length) (P / 2) (syndromes P r) = some e ∧ List.zipWith gfAdd r e = c := by
  unfold rsCorrect
  cases errorSearch (locators r.length) (P / 2) (syndromes P r) <;> simp

/-- The correction is the codeword within distance `floor(P/2)` (R183). -/
theorem rsCorrect_eq_some_iff {P : Nat} {r c : List Byte} (hr : r.length ≤ 255) :
    rsCorrect P r = some c ↔ c.length = r.length ∧ isCodeword P c = true ∧ hammingDist r c ≤ P / 2 := by
  rw [rsCorrect_eq_some_iff_errorSearch]
  constructor
  · rintro ⟨e, he, rfl⟩
    obtain ⟨hlen, hw, hS⟩ := errorSearch_sound (nodup_locators hr) he
    rw [length_locators] at hlen
    have hP : (syndromes P r).length = P := by rw [syndromes_eq_powerSums, length_powerSums]
    rw [hP] at hS
    refine ⟨by simp [hlen], (isCodeword_zipWith_gfAdd_iff hlen).mpr hS, ?_⟩
    rwa [hammingDist_eq_weight, zipWith_gfAdd_cancel_left hlen.symm]
  · rintro ⟨hlen, hcode, hdist⟩
    have hcancel := zipWith_gfAdd_cancel_left hlen.symm
    have hlen' : (List.zipWith gfAdd r c).length = r.length := by simp [hlen]
    refine ⟨_, ?_, hcancel⟩
    rw [hammingDist_eq_weight] at hdist
    rw [(isCodeword_zipWith_gfAdd_iff hlen').mp (hcancel.symm ▸ hcode)]
    exact errorSearch_powerSums (nodup_locators hr) (by simp [hlen']) hdist (by omega)

/-- A codeword is corrected to itself, whatever its length. -/
theorem rsCorrect_of_isCodeword {P : Nat} {r : List Byte} (h : isCodeword P r = true) : rsCorrect P r = some r := by
  have hzero : ∀ v ∈ syndromes P r, v = 0 := by simpa [isCodeword] using h
  refine rsCorrect_eq_some_iff_errorSearch.mpr
    ⟨_, errorSearch_zero _ _ hzero, List.ext_getElem (by simp) fun i _ _ => ?_⟩
  rw [List.getElem_zipWith, List.getElem_replicate, gfAdd_zero]

/-- Settles O40; that no codeword is near enough is that none is the correction. -/
theorem correctionIsBoundedDistance : Obligations.CorrectionIsBoundedDistance := by
  refine fun P r hr => ⟨fun c => rsCorrect_eq_some_iff hr, ?_⟩
  rw [Option.eq_none_iff_forall_ne_some]
  refine forall_congr' fun c => ?_
  rw [ne_eq, rsCorrect_eq_some_iff hr, not_and, not_and, Nat.not_le]

end Sys2Proof.Machine
end

section
/-!
The encoder unit of spec/43_reed_solomon.md (R169 to R173). The shift register holds, at the front of what is left of
the message, the remainder of the division of R168: one step of the register is one step of the division.
-/

namespace Sys2Proof.Machine

/-! ### The generator polynomial and the shift register (R166, R169) -/

@[simp] theorem length_polyMulLinear (c : List Byte) (a : Byte) : (polyMulLinear c a).length = c.length + 1 := by
  simp [polyMulLinear]

@[simp] theorem length_generator (P : Nat) : (generator P).length = P + 1 := by
  induction P with
  | zero => rfl
  | succ P ih =>
    have hsucc : generator (P + 1) = polyMulLinear (generator P) (gfPow Config.alpha (Config.fcr + P)) := by
      rw [generator, List.range_succ, List.foldl_append]
      rfl
    rw [hsucc, length_polyMulLinear, ih]

theorem length_lfsrStep {P : Nat} {par : List Byte} (h : par.length = P) (m : Byte) :
    (lfsrStep P par m).length = P := by
  simp only [lfsrStep, List.length_zipWith, List.length_append, List.length_tail, length_generator,
    List.length_singleton]
  omega

/-- The formula of R169, byte by byte; the register past its end reads as 0. -/
theorem getD_lfsrStep {P : Nat} {par : List Byte} (h : par.length = P) (m : Byte) {i : Nat} (hi : i < P) :
    (lfsrStep P par m).getD i 0 =
      gfAdd (par.getD (i + 1) 0) (gfMul (gfAdd m (par.getD 0 0)) ((generator P).getD (i + 1) 0)) := by
  have hshift : (par.tail ++ [0])[i]'(by simp; omega) = par.getD (i + 1) 0 := by
    by_cases hlast : i + 1 < par.length
    · rw [List.getElem_append_left (by simp; omega), List.getElem_tail, List.getD_eq_getElem _ _ hlast]
    · rw [List.getElem_append_right (by simp; omega), List.getElem_singleton, List.getD_eq_default _ _ (by omega)]
  have hfb : par.headD 0 = par.getD 0 0 := by cases par <;> rfl
  have hgen : i + 1 < (generator P).length := by
    rw [length_generator]
    omega
  rw [List.getD_eq_getElem _ _ ((length_lfsrStep h m).symm ▸ hi), List.getD_eq_getElem _ _ hgen, ← hshift, ← hfb]
  simp only [lfsrStep, List.getElem_zipWith, List.getElem_tail]

/-! ### One step of the division (R168) -/

@[simp] theorem addFront_nil (xs : List Byte) : addFront xs [] = xs := by cases xs <;> rfl

@[simp] theorem addFront_cons_cons (x y : Byte) (xs ys : List Byte) :
    addFront (x :: xs) (y :: ys) = gfAdd x y :: addFront xs ys := rfl

theorem addFront_replicate_zero (xs : List Byte) {n : Nat} (h : n ≤ xs.length) :
    addFront xs (List.replicate n 0) = xs := by
  induction n generalizing xs with
  | zero => exact addFront_nil xs
  | succ n ih =>
    obtain ⟨x, xs, rfl⟩ := List.exists_cons_of_length_pos (Nat.zero_lt_of_lt h)
    rw [List.replicate_succ, addFront_cons_cons, gfAdd_zero, ih xs (Nat.le_of_succ_le_succ h)]

theorem replicate_zero_addFront (ys : List Byte) : addFront (List.replicate ys.length 0) ys = ys := by
  induction ys with
  | nil => rfl
  | cons y ys ih => rw [List.length_cons, List.replicate_succ, addFront_cons_cons, zero_gfAdd, ih]

/-- Two lists added onto the front one after the other; the first may be one shorter. -/
theorem addFront_addFront {xs ys zs : List Byte} (hyz : (ys ++ [0]).length = zs.length) (hx : zs.length ≤ xs.length) :
    addFront (addFront xs ys) zs = addFront xs (List.zipWith gfAdd (ys ++ [0]) zs) := by
  induction ys generalizing xs zs with
  | nil =>
    obtain ⟨z, rfl⟩ := List.length_eq_one_iff.mp hyz.symm
    obtain ⟨x, xs, rfl⟩ := List.exists_cons_of_length_pos hx
    simp only [addFront_nil, addFront_cons_cons, List.nil_append, List.zipWith_cons_cons, List.zipWith_nil_right,
      zero_gfAdd]
  | cons y ys ih =>
    obtain ⟨z, zs, rfl⟩ := List.exists_cons_of_length_eq_add_one hyz.symm
    obtain ⟨x, xs, rfl⟩ := List.exists_cons_of_length_pos (Nat.zero_lt_of_lt hx)
    rw [List.cons_append, List.zipWith_cons_cons, addFront_cons_cons, addFront_cons_cons, addFront_cons_cons,
      ih (Nat.succ_inj.mp hyz) (Nat.le_of_succ_le_succ hx), gfAdd_assoc]

/-- With the register added onto the front of the message, a step of the division is a step of the register. -/
theorem polyRem_addFront_cons {P : Nat} {par : List Byte} (h : par.length = P) (n : Nat) (m : Byte) {rest : List Byte}
    (hrest : P ≤ rest.length) :
    polyRem (n + 1) (addFront (m :: rest) par) (generator P) =
      polyRem n (addFront rest (lfsrStep P par m)) (generator P) := by
  cases par with
  | nil =>
    subst h
    rfl
  | cons p par =>
    have hdivide : addFront (addFront rest par) ((generator P).tail.map (gfMul (gfAdd m p))) =
        addFront rest (lfsrStep P (p :: par) m) := by
      rw [addFront_addFront (by simp [← h]) (by simpa using hrest), lfsrStep, List.zipWith_map_right]
      rfl
    rw [addFront_cons_cons, polyRem, hdivide]

theorem polyRem_addFront {P : Nat} {par : List Byte} (h : par.length = P) (m : List Byte) :
    polyRem m.length (addFront (m ++ List.replicate P 0) par) (generator P) = m.foldl (lfsrStep P) par := by
  induction m generalizing par with
  | nil =>
    rw [List.nil_append, ← h, replicate_zero_addFront]
    cases par <;> rfl
  | cons b m ih =>
    rw [List.length_cons, List.cons_append, polyRem_addFront_cons h _ _ (by simp), ih (length_lfsrStep h b),
      List.foldl_cons]

/-- `rs_encode(m)` by the shift register. -/
theorem rsEncode_eq_foldl (P : Nat) (m : List Byte) :
    rsEncode P m = m ++ m.foldl (lfsrStep P) (List.replicate P 0) := by
  rw [rsEncode, ← polyRem_addFront (List.length_replicate ..), addFront_replicate_zero _ (by simp)]

/-! ### The commands on a running block -/

theorem encodesBare_rseStart : EncodesBare 0x40 .rseStart := fun arg => decode_commandWord 0x40 arg

theorem encodes_rseByte : Encodes 0x41 8 .rseByte := fun arg => decode_commandWord 0x41 arg

theorem encodes_rsePar : Encodes 0x42 8 .rsePar := fun arg => decode_commandWord 0x42 arg

section

variable {s : State} (hfault : s.fault = none)
include hfault

theorem exec_rseStart : exec .rseStart s = .next (s.rseClear.answer 0 []) := command_of_running hfault _

theorem exec_rseByte_of_ne {m : Byte} (hcnt : s.rseCnt.toNat ≠ s.cfg.K) :
    exec (.rseByte m) s = .next ((s.rseTake m).answer (field m) []) := by
  change execRseByte m s = _
  rw [execRseByte, command_of_running hfault, if_neg hcnt, finish_ok]

theorem exec_rseByte_of_eq {m : Byte} (hcnt : s.rseCnt.toNat = s.cfg.K) :
    exec (.rseByte m) s = .next (s.takeFault .sequenceError 0x41) := by
  change execRseByte m s = _
  rw [execRseByte, command_of_running hfault, if_pos hcnt, finish_raised]

theorem exec_rsePar_of_ne {j : Byte} (hcnt : s.rseCnt.toNat ≠ s.cfg.K) :
    exec (.rsePar j) s = .next (s.takeFault .sequenceError 0x42) := by
  change execRsePar j s = _
  rw [execRsePar, command_of_running hfault, if_pos hcnt, finish_raised]

theorem exec_rsePar_of_le {j : Byte} (hcnt : s.rseCnt.toNat = s.cfg.K) (hj : s.cfg.P ≤ j.toNat) :
    exec (.rsePar j) s = .next (s.takeFault .operandRange 0x42) := by
  change execRsePar j s = _
  rw [execRsePar, command_of_running hfault, if_neg (not_not.mpr hcnt), if_pos hj, finish_raised]

theorem exec_rsePar_of_lt {j : Byte} (hcnt : s.rseCnt.toNat = s.cfg.K) (hj : j.toNat < s.cfg.P) :
    exec (.rsePar j) s = .next (s.answer (field (s.par.getD j.toNat 0)) []) := by
  change execRsePar j s = _
  rw [execRsePar, command_of_running hfault, if_neg (not_not.mpr hcnt), if_neg hj.not_ge, finish_ok]

end

/-- Settles O35, command by command. -/
theorem encoderUnitCommands : Obligations.EncoderUnitCommands :=
  ⟨encodesBare_rseStart, encodes_rseByte, encodes_rsePar, fun _ => exec_rseStart,
    fun s m hfault hpar hcnt => ⟨lfsrStep s.cfg.P s.par m, length_lfsrStep hpar m, fun _ => getD_lfsrStep hpar m,
      exec_rseByte_of_ne hfault hcnt⟩,
    fun _ _ hfault => exec_rseByte_of_eq hfault,
    fun _ _ hfault => ⟨exec_rsePar_of_lt hfault, exec_rsePar_of_ne hfault, exec_rsePar_of_le hfault⟩⟩

/-! ### Sessions of commands -/

/-- A byte counter does not wrap below 255. -/
theorem toNat_count_add_one {n : BitVec 8} (h : n.toNat < 255) : (n + 1).toNat = n.toNat + 1 := by bv_omega

/-- A session whose first command completes without events. -/
theorem session_cons_of_answer {i : Instr} {s t : State} {rsp : Word48} (h : exec i s = .next (t.answer rsp []))
    (is : List Instr) : session (i :: is) s = session is (t.answer rsp []) := by
  rw [session, h]
  dsimp only [answer_response]
  rw [if_pos rfl]
  cases session is (t.answer rsp []) <;> rfl

/-- The message bytes of a codeword go through the register one after the other (R171). -/
theorem session_rseBytes {s : State} (m : List Byte) (hfault : s.fault = none) (hK : s.cfg.K ≤ 255)
    (hlen : s.rseCnt.toNat + m.length = s.cfg.K) :
    ∃ t, session (m.map .rseByte) s = some (t, []) ∧ t.par = m.foldl (lfsrStep s.cfg.P) s.par ∧
      t.rseCnt.toNat = s.cfg.K := by
  induction m generalizing s with
  | nil => exact ⟨s, rfl, rfl, hlen⟩
  | cons b m ih =>
    rw [List.length_cons] at hlen
    have hcnt : (s.rseCnt + 1).toNat = s.rseCnt.toNat + 1 := toNat_count_add_one (by omega)
    rw [List.map_cons, session_cons_of_answer (exec_rseByte_of_ne hfault (by omega))]
    refine ih (s := (s.rseTake b).answer (field b) []) hfault hK ?_
    rw [answer_rseCnt, rseTake_rseCnt, hcnt, answer_cfg, rseTake_cfg]
    omega

/-- Settles O36: the register divides as `rs_encode` does. -/
theorem shiftRegisterComputesTheParity : Obligations.ShiftRegisterComputesTheParity := by
  intro s m hinv hfault hlen
  obtain ⟨-, -, hN, -⟩ := hinv.params
  obtain ⟨t, hsession, hpar, hcnt⟩ := session_rseBytes (s := s.rseClear.answer 0 []) m hfault
    (show s.cfg.K ≤ 255 by omega) ((Nat.zero_add _).trans hlen)
  refine ⟨t, ?_, ?_, hcnt⟩
  · rw [session_cons_of_answer (exec_rseStart hfault), hsession]
  · rw [hpar, rsEncode_eq_foldl]
    rfl

end Sys2Proof.Machine
end

section
/-!
The decoder unit of spec/43_reed_solomon.md: its commands (R180, R181, R184 to R186) and the loading of a word (R189).
-/

namespace Sys2Proof.Machine

/-! ### The encodings -/

theorem encodesBare_rsdStart : EncodesBare 0x50 .rsdStart := fun arg => decode_commandWord 0x50 arg

theorem encodes_rsdByte : Encodes 0x51 8 .rsdByte := fun arg => decode_commandWord 0x51 arg

theorem encodes_rsdDecode : Encodes 0x52 1 .rsdDecode := fun arg => decode_commandWord 0x52 arg

theorem encodes_rsdRead : Encodes 0x53 8 .rsdRead := fun arg => decode_commandWord 0x53 arg

theorem encodes_rsdSynd : Encodes 0x54 8 .rsdSynd := fun arg => decode_commandWord 0x54 arg

/-! ### The commands on a running block -/

/-- `RSD.BYTE` on the registers (R181). -/
def State.rsdLoad (s : State) (b : Byte) : State :=
  { s with rsdBuf := s.rsdBuf.set s.rsdCnt.toNat b, rsdCnt := s.rsdCnt + 1, rsdOk := false }

@[simp] theorem rsdLoad_cfg (s : State) (b : Byte) : (s.rsdLoad b).cfg = s.cfg := rfl

@[simp] theorem rsdLoad_rsdBuf (s : State) (b : Byte) : (s.rsdLoad b).rsdBuf = s.rsdBuf.set s.rsdCnt.toNat b := rfl

@[simp] theorem rsdLoad_rsdCnt (s : State) (b : Byte) : (s.rsdLoad b).rsdCnt = s.rsdCnt + 1 := rfl

section

variable {s : State} (hfault : s.fault = none)
include hfault

theorem exec_rsdStart :
    exec .rsdStart s = .next (({ s with rsdCnt := 0, rsdOk := false } : State).answer 0 []) :=
  command_of_running hfault _

theorem exec_rsdByte_of_ne {b : Byte} (hcnt : s.rsdCnt.toNat ≠ s.cfg.N) :
    exec (.rsdByte b) s = .next ((s.rsdLoad b).answer 0 []) := by
  change execRsdByte b s = _
  rw [execRsdByte, command_of_running hfault, if_neg hcnt, finish_ok]
  rfl

theorem exec_rsdByte_of_eq {b : Byte} (hcnt : s.rsdCnt.toNat = s.cfg.N) :
    exec (.rsdByte b) s = .next (s.takeFault .sequenceError 0x51) := by
  change execRsdByte b s = _
  rw [execRsdByte, command_of_running hfault, if_pos hcnt, finish_raised]

theorem exec_rsdRead_of_not_ok {j : Byte} (hok : s.rsdOk = false) :
    exec (.rsdRead j) s = .next (s.takeFault .sequenceError 0x53) := by
  change execRsdRead j s = _
  rw [execRsdRead, command_of_running hfault, if_pos hok, finish_raised]

theorem exec_rsdRead_of_le {j : Byte} (hok : s.rsdOk = true) (hj : s.cfg.N ≤ j.toNat) :
    exec (.rsdRead j) s = .next (s.takeFault .operandRange 0x53) := by
  change execRsdRead j s = _
  rw [execRsdRead, command_of_running hfault, if_neg (Bool.not_eq_false _ ▸ hok), if_pos hj, finish_raised]

theorem exec_rsdRead_of_lt {j : Byte} (hok : s.rsdOk = true) (hj : j.toNat < s.cfg.N) :
    exec (.rsdRead j) s = .next (s.answer (field (s.rsdBuf.getD j.toNat 0)) []) := by
  change execRsdRead j s = _
  rw [execRsdRead, command_of_running hfault, if_neg (Bool.not_eq_false _ ▸ hok), if_neg hj.not_ge, finish_ok]

theorem exec_rsdSynd_of_ne {j : Byte} (hcnt : s.rsdCnt.toNat ≠ s.cfg.N) :
    exec (.rsdSynd j) s = .next (s.takeFault .sequenceError 0x54) := by
  change execRsdSynd j s = _
  rw [execRsdSynd, command_of_running hfault, if_pos hcnt, finish_raised]

theorem exec_rsdSynd_of_le {j : Byte} (hcnt : s.rsdCnt.toNat = s.cfg.N) (hj : s.cfg.P ≤ j.toNat) :
    exec (.rsdSynd j) s = .next (s.takeFault .operandRange 0x54) := by
  change execRsdSynd j s = _
  rw [execRsdSynd, command_of_running hfault, if_neg (not_not.mpr hcnt), if_pos hj, finish_raised]

theorem exec_rsdSynd_of_lt {j : Byte} (hcnt : s.rsdCnt.toNat = s.cfg.N) (hj : j.toNat < s.cfg.P) :
    exec (.rsdSynd j) s = .next (s.answer (field (syndrome s.rsdBuf j.toNat)) []) := by
  change execRsdSynd j s = _
  rw [execRsdSynd, command_of_running hfault, if_neg (not_not.mpr hcnt), if_neg hj.not_ge, finish_ok]

theorem exec_rsdDecode_of_ne {f : BitVec 1} (hcnt : s.rsdCnt.toNat ≠ s.cfg.N) :
    exec (.rsdDecode f) s = .next (s.takeFault .sequenceError 0x52) := by
  change execRsdDecode f s = _
  rw [execRsdDecode, command_of_running hfault, if_pos hcnt, finish_raised]

/-- The fast path looks at no parity (R187). -/
theorem exec_rsdDecode_zero (hcnt : s.rsdCnt.toNat = s.cfg.N) :
    exec (.rsdDecode 0) s = .next (({ s with rsdOk := true } : State).answer 0 []) := by
  change execRsdDecode 0 s = _
  rw [execRsdDecode, command_of_running hfault, if_neg (not_not.mpr hcnt)]
  rfl

theorem exec_rsdDecode_one_of_some {c : List Byte} (hcnt : s.rsdCnt.toNat = s.cfg.N)
    (hc : rsCorrect s.cfg.P s.rsdBuf = some c) :
    exec (.rsdDecode 1) s = .next (({ s with rsdBuf := c, rsdOk := true } : State).answer
      (BitVec.ofNat 48 (hammingDist s.rsdBuf c)) []) := by
  have hbody : s.rsdCorrect true = .ok ({ s with rsdBuf := c, rsdOk := true }, hammingDist s.rsdBuf c) := by
    rw [State.rsdCorrect, if_pos rfl, hc]
  change execRsdDecode 1 s = _
  rw [execRsdDecode, command_of_running hfault, if_neg (not_not.mpr hcnt), decide_eq_true rfl, hbody]
  rfl

theorem exec_rsdDecode_one_of_none (hcnt : s.rsdCnt.toNat = s.cfg.N) (hc : rsCorrect s.cfg.P s.rsdBuf = none) :
    exec (.rsdDecode 1) s = .next (s.takeFault .uncorrectableCodeword s.cwidx) := by
  have hbody : s.rsdCorrect true = raised .uncorrectableCodeword s.cwidx := by
    rw [State.rsdCorrect, if_pos rfl, hc]
  change execRsdDecode 1 s = _
  rw [execRsdDecode, command_of_running hfault, if_neg (not_not.mpr hcnt), decide_eq_true rfl, hbody]
  rfl

/-- A codeword is its own correction at distance 0, so the slow path does what the fast one does. -/
theorem exec_rsdDecode_one_of_isCodeword (hcnt : s.rsdCnt.toNat = s.cfg.N)
    (hcode : isCodeword s.cfg.P s.rsdBuf = true) : exec (.rsdDecode 1) s = exec (.rsdDecode 0) s := by
  rw [exec_rsdDecode_one_of_some hfault hcnt (rsCorrect_of_isCodeword hcode), exec_rsdDecode_zero hfault hcnt,
    hammingDist_self]
  rfl

end

/-- Settles O39; without parity every sequence is a codeword. -/
theorem decodeCommandCorrectsOrFaults : Obligations.DecodeCommandCorrectsOrFaults := by
  refine ⟨encodes_rsdDecode, fun s f hfault => exec_rsdDecode_of_ne hfault, fun s hfault hcnt =>
    ⟨exec_rsdDecode_zero hfault hcnt, fun c => exec_rsdDecode_one_of_some hfault hcnt,
      exec_rsdDecode_one_of_none hfault hcnt, exec_rsdDecode_one_of_isCodeword hfault hcnt, fun hP => ?_⟩⟩
  exact exec_rsdDecode_one_of_isCodeword hfault hcnt (hP.symm ▸ rfl)

/-! ### Loading a word (R189) -/

theorem take_set_succ {l : List Byte} {k : Nat} (hk : k < l.length) (b : Byte) :
    (l.set k b).take (k + 1) = l.take k ++ [b] := by
  rw [List.take_add_one, List.take_set_of_le (Nat.le_refl k), List.getElem?_set_self hk, Option.toList_some]

/-- Bytes loaded behind the first `RSD_CNT` bytes of the buffer, up to its end. -/
theorem session_rsdBytes {s : State} (w : List Byte) (hfault : s.fault = none) (hN : s.cfg.N ≤ 255)
    (hbuf : s.rsdBuf.length = s.cfg.N) (hlen : s.rsdCnt.toNat + w.length = s.cfg.N) (hok : s.rsdOk = false)
    (hresponse : s.response = some ⟨0, 0, []⟩) :
    session (w.map .rsdByte) s = some ({ s with
      rsdBuf := s.rsdBuf.take s.rsdCnt.toNat ++ w, rsdCnt := BitVec.ofNat 8 s.cfg.N }, []) := by
  induction w generalizing s with
  | nil =>
    have hfull : s.rsdCnt.toNat = s.cfg.N := hlen
    rw [List.append_nil, List.take_of_length_le (hbuf.trans hfull.symm).le, ← hfull, BitVec.ofNat_toNat,
      BitVec.setWidth_eq]
    rfl
  | cons b w ih =>
    rw [List.length_cons] at hlen
    have hcnt : (s.rsdCnt + 1).toNat = s.rsdCnt.toNat + 1 := toNat_count_add_one (by omega)
    rw [List.map_cons, session_cons_of_answer (exec_rsdByte_of_ne hfault (by omega))]
    refine (ih (s := (s.rsdLoad b).answer 0 []) hfault hN (List.length_set.trans hbuf) ?_ rfl rfl).trans ?_
    · rw [answer_rsdCnt, rsdLoad_rsdCnt, hcnt, answer_cfg, rsdLoad_cfg]
      omega
    · rw [answer_rsdCnt, rsdLoad_rsdCnt, hcnt, answer_rsdBuf, rsdLoad_rsdBuf, take_set_succ (by omega),
        List.append_assoc, List.singleton_append]
      simp only [State.answer, State.rsdLoad, hok, hresponse]

/-- Settles O38, command by command; the loaded word replaces the whole buffer. -/
theorem decoderUnitCommands : Obligations.DecoderUnitCommands := by
  refine ⟨encodesBare_rsdStart, encodes_rsdByte, encodes_rsdRead, encodes_rsdSynd, fun _ => exec_rsdStart,
    fun _ _ hfault => ⟨exec_rsdByte_of_ne hfault, exec_rsdByte_of_eq hfault⟩,
    fun _ _ hfault => ⟨exec_rsdRead_of_lt hfault, exec_rsdRead_of_not_ok hfault, exec_rsdRead_of_le hfault⟩,
    fun _ _ hfault => ⟨exec_rsdSynd_of_lt hfault, exec_rsdSynd_of_ne hfault, exec_rsdSynd_of_le hfault⟩,
    fun s w hinv hfault hlen => ⟨_, ?_, rfl⟩⟩
  obtain ⟨-, -, hKP, -⟩ := hinv.params
  have hN : s.cfg.N ≤ 255 := s.cfg.N_eq ▸ hKP
  rw [session_cons_of_answer (exec_rsdStart hfault)]
  exact session_rsdBytes w hfault hN hinv.rsdBuf_length ((Nat.zero_add _).trans hlen) rfl rfl

end Sys2Proof.Machine
end

section
/-!
The digit converter of spec/44_digit_converter_and_packer.md: the digits of a byte and their join (R210, R211), and the
three commands of unit DSC (R212 to R214).
-/

namespace Sys2Proof.Machine

/-! ### Digits and bytes as numbers (R210, R211) -/

/-- `field_append` for a part of a response value. -/
theorem toNat_append_eq_add {n m : Nat} (hi : BitVec n) (lo : BitVec m) :
    (hi ++ lo).toNat = 2 ^ m * hi.toNat + lo.toNat := by
  rw [BitVec.toNat_append, ← Nat.shiftLeft_add_eq_or_of_lt lo.isLt, Nat.shiftLeft_eq, Nat.mul_comm]

theorem toNat_digitsOf_fst (b : Byte) : (digitsOf b).1.toNat = b.toNat / 64 := by
  have hb := b.isLt
  exact Nat.mod_eq_of_lt (by omega)

theorem toNat_digitsOf_snd_fst (b : Byte) : (digitsOf b).2.1.toNat = b.toNat / 8 % 8 :=
  Nat.mod_mod _ 8

theorem toNat_digitsOf_snd_snd (b : Byte) : (digitsOf b).2.2.toNat = b.toNat % 8 :=
  Nat.mod_mod _ 8

/-- The first digit has two bits of the byte. -/
theorem digitsOf_fst_le (b : Byte) : (digitsOf b).1.toNat ≤ 3 := by
  have hb := b.isLt
  rw [toNat_digitsOf_fst]
  omega

/-- The base-8 expansion of a byte. -/
theorem digits_sum (n : Nat) : 64 * (n / 64) + 8 * (n / 8 % 8) + n % 8 = n := by omega

theorem toNat_joinDigits (d0 d1 d2 : Digit) :
    (joinDigits d0 d1 d2).toNat = (64 * d0.toNat + 8 * d1.toNat + d2.toNat) % 256 :=
  BitVec.toNat_ofNat ..

theorem joinDigits_digitsOf (b : Byte) : joinDigits (digitsOf b).1 (digitsOf b).2.1 (digitsOf b).2.2 = b := by
  rw [joinDigits, toNat_digitsOf_fst, toNat_digitsOf_snd_fst, toNat_digitsOf_snd_snd, digits_sum, BitVec.ofNat_toNat,
    BitVec.setWidth_eq]

theorem digitStream_cons (b : Byte) (bytes : List Byte) : digitStream (b :: bytes) =
    (digitsOf b).1 :: (digitsOf b).2.1 :: (digitsOf b).2.2 :: digitStream bytes := List.flatMap_cons

/-- Settles O46: the digits are the base-8 expansion of the byte. -/
theorem joiningDigitsGivesTheByteBack : Obligations.JoiningDigitsGivesTheByteBack :=
  ⟨fun b => ⟨toNat_digitsOf_fst b, toNat_digitsOf_snd_fst b, toNat_digitsOf_snd_snd b, digitsOf_fst_le b,
    joinDigits_digitsOf b⟩, toNat_joinDigits, digitStream_cons, rfl⟩

/-! ### Response values -/

/-- With `ph` digits pending, those after the one delivered count `8 ^ (ph - 1)` together (R213). -/
theorem toNat_pendingDigit (byte : Byte) (ph : BitVec 2) :
    (pendingDigit byte ph).toNat = byte.toNat / 8 ^ (ph.toNat - 1) % 8 := by
  have hbyte : (byte.setWidth 9).toNat = byte.toNat := BitVec.toNat_setWidth_of_le (by decide)
  rw [pendingDigit, BitVec.extractLsb'_toNat, BitVec.toNat_ushiftRight, hbyte, Nat.shiftRight_zero,
    Nat.shiftRight_eq_div_pow, Nat.pow_mul]

theorem nextField_eq_ofNat (left : BitVec 2) (d : Digit) :
    nextField left d = BitVec.ofNat 48 (8 * left.toNat + d.toNat) := field_append left d

theorem digitsField_eq_ofNat (d0 d1 d2 : Digit) :
    digitsField d0 d1 d2 = BitVec.ofNat 48 (64 * d0.toNat + 8 * d1.toNat + d2.toNat) := by
  rw [digitsField, field_append, toNat_append_eq_add, ← Nat.add_assoc]
  rfl

theorem digitsField_digitsOf (b : Byte) : digitsField (digitsOf b).1 (digitsOf b).2.1 (digitsOf b).2.2 =
    BitVec.ofNat 48 (64 * (b.toNat / 64) + 8 * (b.toNat / 8 % 8) + b.toNat % 8) := by
  rw [digitsField_eq_ofNat, toNat_digitsOf_fst, toNat_digitsOf_snd_fst, toNat_digitsOf_snd_snd]

/-! ### The commands -/

theorem encodes_dscLoad : Encodes 0x80 8 .dscLoad := fun arg => decode_commandWord 0x80 arg

theorem encodesBare_dscNext : EncodesBare 0x81 .dscNext := fun arg => decode_commandWord 0x81 arg

theorem encodes_dscExpand : Encodes 0x82 8 .dscExpand := fun arg => decode_commandWord 0x82 arg

section

variable {s : State} (hfault : s.fault = none)
include hfault

theorem exec_dscLoad_of_idle (b : Byte) (hph : s.dscPh = 0) :
    exec (.dscLoad b) s = .next (({ s with dscByte := b, dscPh := 3 } : State).answer 0 []) := by
  change execDscLoad b s = _
  rw [execDscLoad, command_of_running hfault, if_neg (not_not.mpr hph), finish_ok]

theorem exec_dscLoad_of_pending (b : Byte) (hph : s.dscPh ≠ 0) :
    exec (.dscLoad b) s = .next (s.takeFault .sequenceError 0x80) := by
  change execDscLoad b s = _
  rw [execDscLoad, command_of_running hfault, if_pos hph, finish_raised]

theorem exec_dscNext_of_idle (hph : s.dscPh = 0) :
    exec .dscNext s = .next (s.takeFault .sequenceError 0x81) := by
  change execDscNext s = _
  rw [execDscNext, command_of_running hfault, if_pos hph, finish_raised]

theorem exec_dscNext_of_pending (hph : s.dscPh ≠ 0) :
    exec .dscNext s = .next (({ s with dscPh := s.dscPh - 1 } : State).answer (BitVec.ofNat 48
      (8 * (s.dscPh.toNat - 1) + s.dscByte.toNat / 8 ^ (s.dscPh.toNat - 1) % 8)) []) := by
  have hleft : (s.dscPh - 1).toNat = s.dscPh.toNat - 1 := by bv_omega
  change execDscNext s = _
  rw [execDscNext, command_of_running hfault, if_neg hph, finish_ok, nextField_eq_ofNat, toNat_pendingDigit, hleft]

theorem exec_dscExpand (b : Byte) :
    exec (.dscExpand b) s = .next (s.answer (BitVec.ofNat 48
      (64 * (b.toNat / 64) + 8 * (b.toNat / 8 % 8) + b.toNat % 8)) []) := by
  change execDscExpand b s = _
  rw [execDscExpand, command_of_running hfault, finish_ok, digitsField_digitsOf]

end

/-- Settles O45, command by command. -/
theorem digitConverterCommands : Obligations.DigitConverterCommands :=
  ⟨encodes_dscLoad, encodesBare_dscNext, encodes_dscExpand, fun _ hfault =>
    ⟨exec_dscLoad_of_idle hfault, exec_dscLoad_of_pending hfault, exec_dscNext_of_idle hfault,
      exec_dscNext_of_pending hfault, fun b => ⟨exec_dscExpand hfault b, digits_sum b.toNat⟩⟩⟩

end Sys2Proof.Machine
end

section
/-!
The packer of spec/44_digit_converter_and_packer.md R220 to R223, and which commands can clear `CFLAG`.
-/

namespace Sys2Proof.Machine

/-! ### The encodings -/

theorem encodesBare_sspStart : EncodesBare 0x70 .sspStart := fun arg => decode_commandWord 0x70 arg

theorem encodes_sspPush : Encodes 0x71 4 (fun a => .sspPush (a.extractLsb' 3 1) (a.extractLsb' 0 3)) :=
  fun arg => decode_commandWord 0x71 arg

theorem encodes_sspCwrd : Encodes 0x72 8 .sspCwrd := fun arg => decode_commandWord 0x72 arg

theorem encodesBare_sspCwpop : EncodesBare 0x73 .sspCwpop := fun arg => decode_commandWord 0x73 arg

/-! ### Values of a push (R221) -/

theorem toNat_bit (b : Bool) : (bit b).toNat = b.toNat := BitVec.toNat_ofBool b

theorem field_bit (b : Bool) : field (bit b) = if b then 1 else 0 := by cases b <;> rfl

theorem pushField_eq_ofNat (cflag cwDone byteDone : Bool) (byte : Byte) :
    pushField cflag cwDone byteDone byte = BitVec.ofNat 48
      ((if cflag then 1024 else 0) + (if cwDone then 512 else 0) + (if byteDone then 256 else 0) + byte.toNat) := by
  have hbit (k : Nat) (b : Bool) : k * b.toNat = if b then k else 0 := by cases b <;> simp
  rw [pushField, field_append, toNat_append_eq_add, toNat_append_eq_add, toNat_bit, toNat_bit, toNat_bit]
  simp only [Nat.reduceAdd, Nat.reducePow, hbit, Nat.add_assoc]

/-- The number that is shifted in: 0, the placeholder, when the digit is indeterminate. -/
theorem toNat_pushedDigit (indet : BitVec 1) (d : Digit) :
    (pushedDigit d (decide (indet = 1))).toNat = if indet = 1 then 0 else d.toNat := by
  by_cases h : indet = 1
  · rw [decide_eq_true h, if_pos h]
    rfl
  · rw [decide_eq_false h, if_neg h]
    rfl

/-- Truncated to any width, the accumulator with one more digit is a number of eight times as much and the digit. -/
theorem setWidth_accumulate (w : Nat) (dacc : BitVec 6) (indet : BitVec 1) (d : Digit) :
    (accumulate dacc (pushedDigit d (decide (indet = 1)))).setWidth w =
      BitVec.ofNat w (8 * dacc.toNat + if indet = 1 then 0 else d.toNat) := by
  rw [← BitVec.ofNat_toNat, toNat_accumulate, toNat_pushedDigit]

/-! ### The commands on a running block -/

section

variable {s : State} (hfault : s.fault = none)
include hfault

theorem exec_sspStart : exec .sspStart s = .next (s.sspClear.answer 0 []) := command_of_running hfault _

theorem exec_sspCwrd_of_lt {j : Byte} (hj : j.toNat < s.cwcnt.toNat) :
    exec (.sspCwrd j) s = .next (s.answer (field (s.cwbuf.getD j.toNat 0)) []) := by
  change execSspCwrd j s = _
  rw [execSspCwrd, command_of_running hfault, if_neg hj.not_ge, finish_ok]

theorem exec_sspCwrd_of_le {j : Byte} (hj : s.cwcnt.toNat ≤ j.toNat) :
    exec (.sspCwrd j) s = .next (s.takeFault .operandRange 0x72) := by
  change execSspCwrd j s = _
  rw [execSspCwrd, command_of_running hfault, if_pos hj, finish_raised]

theorem exec_sspCwpop_of_full (hfull : s.cwcnt.toNat = s.cfg.N) :
    exec .sspCwpop s = .next (s.sspPop.answer (if s.cflag then 1 else 0) []) := by
  change execSspCwpop s = _
  rw [execSspCwpop, command_of_running hfault, if_neg (not_not.mpr hfull), finish_ok, field_bit]

theorem exec_sspCwpop_of_not_full (hfull : s.cwcnt.toNat ≠ s.cfg.N) :
    exec .sspCwpop s = .next (s.takeFault .sequenceError 0x73) := by
  change execSspCwpop s = _
  rw [execSspCwpop, command_of_running hfault, if_pos hfull, finish_raised]

theorem exec_sspPush_of_full (indet : BitVec 1) (d : Digit) (hfull : s.cwcnt.toNat = s.cfg.N) :
    exec (.sspPush indet d) s = .next (s.takeFault .sequenceError 0x71) := by
  change execSspPush indet d s = _
  rw [execSspPush, command_of_running hfault, if_pos hfull, finish_raised]

/-- With room for it, the body of the push is the whole command. -/
theorem exec_sspPush_of_not_full (indet : BitVec 1) (d : Digit) (hfull : s.cwcnt.toNat ≠ s.cfg.N) {t : State}
    {report : PushReport} (htake : s.sspTake d (decide (indet = 1)) = (t, report)) :
    exec (.sspPush indet d) s =
      .next (t.answer (pushField t.cflag report.cwDone report.byteDone report.byte) []) := by
  change execSspPush indet d s = _
  rw [execSspPush, command_of_running hfault, if_neg hfull, htake]
  rfl

theorem exec_sspPush_partial (indet : BitVec 1) (d : Digit) (hfull : s.cwcnt.toNat ≠ s.cfg.N)
    (hdcnt : s.dcnt.toNat < 2) :
    exec (.sspPush indet d) s = .next (({ s with
      cflag := s.cflag || decide (indet = 1)
      dacc := BitVec.ofNat 6 (8 * s.dacc.toNat + if indet = 1 then 0 else d.toNat)
      dcnt := s.dcnt + 1 } : State).answer
        (BitVec.ofNat 48 (if s.cflag || decide (indet = 1) then 1024 else 0)) []) := by
  rw [exec_sspPush_of_not_full hfault indet d hfull (sspTake_partial (BitVec.lt_def.mpr hdcnt) d _),
    setWidth_accumulate, pushField_eq_ofNat]
  rfl

theorem exec_sspPush_byte (indet : BitVec 1) (d : Digit) (hfull : s.cwcnt.toNat ≠ s.cfg.N)
    (hdcnt : 2 ≤ s.dcnt.toNat) :
    exec (.sspPush indet d) s = .next (({ s with
      cflag := s.cflag || decide (indet = 1)
      cwbuf := s.cwbuf.set s.cwcnt.toNat (BitVec.ofNat 8 (8 * s.dacc.toNat + if indet = 1 then 0 else d.toNat))
      cwcnt := s.cwcnt + 1
      dacc := 0
      dcnt := 0 } : State).answer
        (BitVec.ofNat 48 ((if s.cflag || decide (indet = 1) then 1024 else 0) +
          (if s.cwcnt.toNat + 1 = s.cfg.N then 512 else 0) + 256 +
          (8 * s.dacc.toNat + if indet = 1 then 0 else d.toNat) % 256)) []) := by
  have hbyte : ¬ s.dcnt < 2 := fun hlt => hdcnt.not_gt (BitVec.lt_def.mp hlt)
  rw [exec_sspPush_of_not_full hfault indet d hfull (sspTake_byte hbyte d _), setWidth_accumulate,
    pushField_eq_ofNat, BitVec.toNat_ofNat]
  simp only [decide_eq_true_eq, if_true, Nat.reducePow]

end

/-- Settles O47, command by command; that no partial digits are lost is R223 in the invariant. -/
theorem packerCommands : Obligations.PackerCommands :=
  ⟨encodesBare_sspStart, encodes_sspCwrd, encodesBare_sspCwpop, fun _ hfault =>
    ⟨exec_sspStart hfault, fun _ => exec_sspCwrd_of_lt hfault, fun _ => exec_sspCwrd_of_le hfault,
      exec_sspCwpop_of_full hfault, exec_sspCwpop_of_not_full hfault, fun hinv => hinv.full_on_boundary⟩⟩

/-! ### `CFLAG` through an encode session

No part of the encode datapath writes the packer. -/

theorem emit_cflag (e : EncodeRun) : e.emit.state.cflag = e.state.cflag := rfl

theorem paintDigit_cflag (e : EncodeRun) (d : Digit) : (e.paintDigit d).state.cflag = e.state.cflag := by
  unfold EncodeRun.paintDigit
  dsimp only
  split <;> rfl

theorem emitByte_cflag (e : EncodeRun) (x : Byte) : (e.emitByte x).state.cflag = e.state.cflag := by
  unfold EncodeRun.emitByte
  dsimp only
  rw [paintDigit_cflag, paintDigit_cflag, paintDigit_cflag]

theorem foldl_emitByte_cflag (e : EncodeRun) (bytes : List Byte) :
    (bytes.foldl EncodeRun.emitByte e).state.cflag = e.state.cflag := by
  induction bytes generalizing e with
  | nil => rfl
  | cons x bytes ih => rw [List.foldl_cons, ih, emitByte_cflag]

theorem takeByte_cflag (e : EncodeRun) (b : Byte) : (e.takeByte b).state.cflag = e.state.cflag := by
  have hbyte : ((EncodeRun.mk (e.state.rseTake b) e.events).emitByte b).state.cflag = e.state.cflag :=
    emitByte_cflag ..
  unfold EncodeRun.takeByte
  dsimp only
  split
  · rw [rseClear_cflag, foldl_emitByte_cflag, hbyte]
  · exact hbyte

theorem padChunk_cflag (n : Nat) (e : EncodeRun) : (e.padChunk n).state.cflag = e.state.cflag := by
  induction n generalizing e with
  | zero => rfl
  | succ n ih =>
    unfold EncodeRun.padChunk
    split
    · rfl
    · rw [ih, takeByte_cflag]

theorem flush_cflag (e : EncodeRun) : e.flush.state.cflag = e.state.cflag := by
  unfold EncodeRun.flush
  split
  · rfl
  · exact emit_cflag e

theorem close_cflag (e : EncodeRun) : e.close.state.cflag = e.state.cflag := rfl

theorem result_state (e : EncodeRun) : e.result.state = e.state := rfl

/-! ### Which commands can clear `CFLAG` -/

/-- A push can set `CFLAG` and never clears it (R221). -/
theorem sspTake_cflag (s : State) (d : Digit) (indet : Bool) :
    (s.sspTake d indet).1.cflag = (s.cflag || indet) := by
  by_cases hdcnt : s.dcnt < 2
  · rw [sspTake_partial hdcnt]
  · rw [sspTake_byte hdcnt]

/-- When the body of a command completes, it leaves `CFLAG` set. -/
def LeavesCflagSet (body : Except Stop Done) : Prop := ∀ d, body = .ok d → d.state.cflag = true

namespace LeavesCflagSet

theorem of_ok {d : Done} (h : d.state.cflag = true) : LeavesCflagSet (.ok d) := by
  rintro _ ⟨⟩
  exact h

theorem of_error (e : Stop) : LeavesCflagSet (.error e) := fun _ h => nomatch h

theorem of_raised (k : FaultKind) (info : Word48) : LeavesCflagSet (raised k info) := of_error _

theorem of_ite {p : Prop} [Decidable p] {a b : Except Stop Done} (ha : LeavesCflagSet a) (hb : LeavesCflagSet b) :
    LeavesCflagSet (if p then a else b) := by
  split
  · exact ha
  · exact hb

/-- A check that faults, or else the rest of the command. -/
theorem of_guard {p : Prop} [Decidable p] {k : FaultKind} {info : Word48} {body : Except Stop Done}
    (h : LeavesCflagSet body) : LeavesCflagSet (if p then raised k info else body) := of_ite (of_raised k info) h

theorem of_onBlock {s : State} {op : Word48} {i : BlockIndex} {body : Except Stop Done} (h : LeavesCflagSet body) :
    LeavesCflagSet (onBlock s op i body) := of_guard (of_guard h)

theorem of_encodeReady {s : State} {op : Word48} {body : Except Stop Done} (h : LeavesCflagSet body) :
    LeavesCflagSet (encodeReady s op body) := of_guard (of_guard h)

/-- Neither a fault entry nor a refusal writes `CFLAG`. -/
theorem cflag_of_command {s t : State} {body : Except Stop Done} (hbody : LeavesCflagSet body) (hset : s.cflag = true)
    (h : command s body = .next t) : t.cflag = true := by
  obtain ⟨-, rfl⟩ | ⟨-, d, hd, rfl⟩ | ⟨-, k, info, -, rfl⟩ := command_next h
  · exact hset
  · exact hbody d hd
  · exact hset

end LeavesCflagSet

/-- The commands by which `CFLAG` can become 0. -/
def cflagClearers : List Instr := [.sspCwpop, .sspStart, .decStart, .decBlock, .sysReset]

open LeavesCflagSet in
/-- Every other command leaves a set `CFLAG` set: a push only adds to it, and the rest do not write it. -/
theorem exec_leaves_cflag_set {i : Instr} {s t : State} (hset : s.cflag = true) (h : exec i s = .next t)
    (hi : i ∉ cflagClearers) : t.cflag = true := by
  cases i with
  | sspCwpop | sspStart | decStart | decBlock | sysReset => exact absurd (by simp [cflagClearers]) hi
  | csrr n =>
    cases h
    exact hset
  | sysAbortSink | sysAbortSource => exact cflag_of_command (of_raised _ _) hset h
  | aceColorof _ | bccScore _ | bccSnap _ | bccThresh _ | rseStart | rsdStart | flgBlkcnt | flgCurrst
  | dscExpand _ | csrwGeomW _ | csrwGeomH _ | csrwGeomB _ | csrwClsCtrl _ | csrwTgtLen _ =>
    exact cflag_of_command (of_ok (by exact hset)) hset h
  | rseByte _ | rsdByte _ | flgCurnext | flgRescale | sspCwrd _ | dscLoad _ | dscNext | encStart | decEos =>
    exact cflag_of_command (of_guard (of_ok (by exact hset))) hset h
  | rsePar _ | rsdRead _ | rsdSynd _ | decFrame =>
    exact cflag_of_command (of_guard (of_guard (of_ok (by exact hset)))) hset h
  | bccClsnc _ | bccClsth _ | bccClassify _ | flgBlkorg _ =>
    exact cflag_of_command (of_onBlock (of_ok (by exact hset))) hset h
  | acdDigitof c =>
    refine cflag_of_command ?_ hset h
    cases digitOf (colorOfWord c) with
    | none => exact of_raised _ _
    | some d => exact of_ok hset
  | rsdDecode f =>
    refine cflag_of_command (of_guard ?_) hset h
    cases hcorrect : s.rsdCorrect (decide (f = 1)) with
    | error e => exact of_error e
    | ok corrected =>
      obtain ⟨-, ht, -⟩ | ⟨-, c, -, ht, -⟩ := rsdCorrect_ok hcorrect
      · exact of_ok ((congrArg State.cflag ht).trans hset)
      · exact of_ok ((congrArg State.cflag ht).trans hset)
  | sspPush indet d =>
    have htake : (s.sspTake d (decide (indet = 1))).1.cflag = true := by
      rw [sspTake_cflag, hset, Bool.true_or]
    exact cflag_of_command (of_guard (of_ok htake)) hset h
  | encByte b =>
    exact cflag_of_command (of_encodeReady (of_ite (of_error _) (of_ok
      (by rw [result_state, takeByte_cflag, hset])))) hset h
  | encEnd =>
    exact cflag_of_command (of_encodeReady (of_ite (of_error _) (of_ok
      (by rw [result_state, close_cflag, flush_cflag, padChunk_cflag, hset])))) hset h

theorem mem_cflagClearers_of_cleared (i : Instr) (s t : State) (h : exec i s = .next t) (hset : s.cflag = true)
    (hclear : t.cflag = false) : i ∈ cflagClearers := by
  by_contra hi
  exact Bool.false_ne_true (hclear.symm.trans (exec_leaves_cflag_set hset h hi))

/-- Settles O48: the three cases of a push, and the commands that can clear `CFLAG`. -/
theorem pushTakesOneDigit : Obligations.PushTakesOneDigit :=
  ⟨encodes_sspPush, mem_cflagClearers_of_cleared, fun _ indet d hfault =>
    ⟨exec_sspPush_of_full hfault indet d, exec_sspPush_partial hfault indet d, exec_sspPush_byte hfault indet d⟩⟩

end Sys2Proof.Machine
end

section
/-!
The encode datapath of spec/45_datapath.md up to one byte: `ENC.START` (R241), and what painting a block writes (R243).
An address of the frame is read as a pixel and a channel, and the pixel's coordinates, divided by the block side, give
the block whose painting writes it.
-/

namespace Sys2Proof.Machine

/-! ### `ENC.START` (R241) -/

theorem encodesBare_encStart : EncodesBare 0x90 .encStart := fun arg => decode_commandWord 0x90 arg

section

variable {s : State} (hfault : s.fault = none)
include hfault

theorem exec_encStart_of_no_grid (hcnt : s.cnt = 0) : exec .encStart s = .next (s.takeFault .configError 0x90) := by
  change execEncStart s = _
  rw [execEncStart, command_of_running hfault, if_pos hcnt, finish_raised]

theorem exec_encStart_of_grid (hcnt : 0 < s.cnt) : exec .encStart s = .next (s.encodeStart.answer 0 []) := by
  change execEncStart s = _
  rw [execEncStart, command_of_running hfault, if_neg hcnt.ne', finish_ok]

end

theorem readByte_encodeStart (s : State) (a : Nat) :
    s.encodeStart.readByte a = if a < s.frameBytes then 0 else s.readByte a := readByte_blankFrame s a

/-- Settles O50; the frame is read through the law of the blanking. -/
theorem encodeStartBlanksTheFrame : Obligations.EncodeStartBlanksTheFrame :=
  ⟨encodesBare_encStart, fun _ => exec_encStart_of_no_grid, fun s hfault hcnt =>
    ⟨_, exec_encStart_of_grid hfault hcnt, rfl, readByte_encodeStart s⟩⟩

/-! ### The block at an address (R63, R112) -/

/-- The block whose pixel the byte at an address belongs to, `none` in the margin and beyond the frame. -/
def State.blockAt (s : State) (a : Nat) : Option Nat :=
  if a / 3 % s.geomW.toNat / s.geomB.toNat < s.cols ∧ a / 3 / s.geomW.toNat / s.geomB.toNat < s.rows then
    some (a / 3 / s.geomW.toNat / s.geomB.toNat * s.cols + a / 3 % s.geomW.toNat / s.geomB.toNat)
  else none

section

variable {s : State} {i : Nat}

theorem blockAt_lt {a : Nat} (h : s.blockAt a = some i) : i < s.cnt := by
  unfold State.blockAt at h
  split_ifs at h with hin
  obtain ⟨hcol, hrow⟩ := hin
  obtain rfl := Option.some.inj h
  calc _ < (a / 3 / s.geomW.toNat / s.geomB.toNat + 1) * s.cols := by rw [Nat.succ_mul]; omega
    _ ≤ s.rows * s.cols := Nat.mul_le_mul_right _ hrow
    _ = s.cnt := Nat.mul_comm ..

theorem geomW_pos (hi : i < s.cnt) : 0 < s.geomW.toNat :=
  (side_pos hi).trans_le ((Nat.le_add_left ..).trans (origin_fst_add_side_le_width hi))

/-- A pixel lies in the block whose column and row its coordinates give. -/
theorem mem_blockPixels_iff_div (hi : i < s.cnt) {x y : Nat} :
    (x, y) ∈ s.blockPixels i ↔ x / s.geomB.toNat = i % s.cols ∧ y / s.geomB.toNat = i / s.cols := by
  refine ⟨fun h => ⟨div_side_eq_col h, div_side_eq_row h⟩, fun ⟨hcol, hrow⟩ => ?_⟩
  have hx := (Nat.div_eq_iff (side_pos hi)).mp hcol
  have hy := (Nat.div_eq_iff (side_pos hi)).mp hrow
  have hB := side_pos hi
  rw [mem_blockPixels_iff, origin_fst, origin_snd]
  omega

/-- The block at an address holds the pixel with that number. -/
theorem blockAt_eq_some_iff (hi : i < s.cnt) {a : Nat} :
    s.blockAt a = some i ↔ (a / 3 % s.geomW.toNat, a / 3 / s.geomW.toNat) ∈ s.blockPixels i := by
  rw [mem_blockPixels_iff_div hi, State.blockAt]
  constructor
  · intro h
    split_ifs at h with hin
    obtain ⟨hcol, -⟩ := hin
    rw [← Option.some.inj h, Nat.mul_add_mod_of_lt hcol, Nat.mul_comm, Nat.mul_add_div (Nat.zero_lt_of_lt hcol),
      Nat.div_eq_of_lt hcol, Nat.add_zero]
    exact ⟨rfl, rfl⟩
  · rintro ⟨hcol, hrow⟩
    rw [hcol, hrow, if_pos ⟨col_lt_cols hi, row_lt_rows hi⟩, Nat.mul_comm, Nat.div_add_mod]

end

/-! ### Painting (R243) -/

/-- A pixel written at its address reads back by the pixel number and the channel of a byte. -/
theorem lookup_setPixel_three_mul (m : Memory) (n : Nat) (c : Color) (a : Nat) :
    Memory.lookup (Memory.setPixel m (3 * n) c) a =
      if a / 3 = n then some (c.channel (a % 3)) else Memory.lookup m a := by
  have hdiv := Nat.div_add_mod a 3
  rw [lookup_setPixel, Color.channel]
  by_cases hn : a / 3 = n
  · rw [if_pos hn]
    obtain hred | hgreen | hblue : a % 3 = 0 ∨ a % 3 = 1 ∨ a % 3 = 2 := by omega
    · rw [if_pos (by omega), if_pos hred]
    · rw [if_neg (by omega), if_pos (by omega), if_neg (by omega), if_pos hgreen]
    · rw [if_neg (by omega), if_neg (by omega), if_pos (by omega), if_neg (by omega), if_neg (by omega)]
  · rw [if_neg hn, if_neg (by omega), if_neg (by omega), if_neg (by omega)]

theorem lookup_setPixels (s : State) (ps : List (Nat × Nat)) (c : Color) (m : Memory) (a : Nat) :
    Memory.lookup (ps.foldl (fun m q => Memory.setPixel m (s.pixelAddress q.1 q.2) c) m) a =
      if ∃ q ∈ ps, q.2 * s.geomW.toNat + q.1 = a / 3 then some (c.channel (a % 3)) else Memory.lookup m a := by
  induction ps generalizing m with
  | nil => simp
  | cons q ps ih =>
    rw [List.foldl_cons, ih, State.pixelAddress, lookup_setPixel_three_mul]
    simp only [List.exists_mem_cons_iff, eq_comm (a := a / 3)]
    by_cases hps : ∃ q' ∈ ps, q'.2 * s.geomW.toNat + q'.1 = a / 3
    · rw [if_pos hps, if_pos (.inr hps)]
    · simp only [hps, or_false, if_false]

/-- A number below `h * w` is a row of `w` and a column in one way only. -/
theorem mul_add_eq_iff_div_mod {x y w n : Nat} (hx : x < w) : y * w + x = n ↔ x = n % w ∧ y = n / w := by
  constructor
  · rintro rfl
    rw [Nat.mul_add_mod_of_lt hx, Nat.mul_comm, Nat.mul_add_div (Nat.zero_lt_of_lt hx), Nat.div_eq_of_lt hx]
    exact ⟨rfl, rfl⟩
  · rintro ⟨rfl, rfl⟩
    rw [Nat.mul_comm, Nat.div_add_mod]

/-- PAINTING: the bytes of the block at `CUR` read as the colour's channels, every other byte as before. -/
theorem readByte_paintBlock {s : State} (hcur : s.cur.toNat < s.cnt) (c : Color) (a : Nat) :
    (s.paintBlock c).readByte a =
      if s.blockAt a = some s.cur.toNat then c.channel (a % 3) else s.readByte a := by
  have hblock : (∃ q ∈ s.blockPixels s.cur.toNat, q.2 * s.geomW.toNat + q.1 = a / 3) ↔
      s.blockAt a = some s.cur.toNat := by
    rw [blockAt_eq_some_iff hcur]
    constructor
    · rintro ⟨⟨x, y⟩, hq, hnum⟩
      obtain ⟨rfl, rfl⟩ :=
        (mul_add_eq_iff_div_mod (lt_width_and_lt_height_of_mem_blockPixels hcur hq).1).mp hnum
      exact hq
    · exact fun hq => ⟨_, hq, (mul_add_eq_iff_div_mod (Nat.mod_lt _ (geomW_pos hcur))).mpr ⟨rfl, rfl⟩⟩
  simp only [readByte_eq, paintBlock_frame, paintBlock_frameEpoch, lookup_setPixels, hblock]
  split_ifs <;> rfl

end Sys2Proof.Machine
end

section
/-!
Framing (spec/43_reed_solomon.md R174): the encoded payload chunk by chunk, and its length.
-/

namespace Sys2Proof.Machine

/-! ### Lengths -/

theorem length_foldl_lfsrStep {P : Nat} (m : List Byte) {par : List Byte} (h : par.length = P) :
    (m.foldl (lfsrStep P) par).length = P := by
  induction m generalizing par with
  | nil => exact h
  | cons b m ih => exact ih (length_lfsrStep h b)

theorem length_rsEncode (P : Nat) (m : List Byte) : (rsEncode P m).length = m.length + P := by
  rw [rsEncode_eq_foldl, List.length_append, length_foldl_lfsrStep m List.length_replicate]

theorem take_rsEncode (P : Nat) (m : List Byte) : (rsEncode P m).take m.length = m := by
  rw [rsEncode_eq_foldl, List.take_left]

theorem length_digitStream (bytes : List Byte) : (digitStream bytes).length = 3 * bytes.length := by
  induction bytes with
  | nil => rfl
  | cons b bytes ih =>
    rw [digitStream_cons, List.length_cons, List.length_cons, List.length_cons, List.length_cons, ih]
    omega

theorem digitStream_append (xs ys : List Byte) : digitStream (xs ++ ys) = digitStream xs ++ digitStream ys :=
  List.flatMap_append

/-! ### The chunks of a payload (R174) -/

/-- The first chunk of a payload, padded when the payload is shorter. -/
def firstChunk (K : Nat) (bytes : List Byte) : List Byte :=
  bytes.take K ++ List.replicate (K - bytes.length) Config.pad

@[simp] theorem length_firstChunk (K : Nat) (bytes : List Byte) : (firstChunk K bytes).length = K := by
  simp only [firstChunk, List.length_append, List.length_take, List.length_replicate]
  omega

theorem firstChunk_append_of_length {K : Nat} {m : List Byte} (h : m.length = K) (bytes : List Byte) :
    firstChunk K (m ++ bytes) = m := by
  have hpad : K - (m ++ bytes).length = 0 := by
    rw [List.length_append]
    omega
  rw [firstChunk, hpad, List.replicate_zero, List.append_nil, ← h, List.take_left]

theorem firstChunk_of_length_le {K : Nat} {m : List Byte} (h : m.length ≤ K) :
    firstChunk K m = m ++ List.replicate (K - m.length) Config.pad := by
  rw [firstChunk, List.take_of_length_le h]

/-- The bytes of the payload among those of its first chunk. -/
theorem take_length_firstChunk (K : Nat) (bytes : List Byte) :
    (firstChunk K bytes).take bytes.length = bytes.take K := by
  rcases Nat.le_total bytes.length K with h | h
  · rw [firstChunk_of_length_le h, List.take_left, List.take_of_length_le h]
  · rw [firstChunk, Nat.sub_eq_zero_of_le h, List.replicate_zero, List.append_nil, List.take_take,
      Nat.min_eq_right h]

theorem length_drop_lt {α : Type} {K : Nat} (hK : 0 < K) {l : List α} (h : l ≠ []) :
    (l.drop K).length < l.length := by
  have hpos := List.length_pos_of_ne_nil h
  rw [List.length_drop]
  omega

/-- Chunks enough for the payload give the same result whatever their bound is. -/
theorem chunks_congr {K : Nat} (hK : 0 < K) {n m : Nat} {bytes : List Byte} (hn : bytes.length ≤ n)
    (hm : bytes.length ≤ m) : chunks n K bytes = chunks m K bytes := by
  induction n generalizing m bytes with
  | zero =>
    obtain rfl := List.eq_nil_of_length_eq_zero (Nat.le_zero.mp hn)
    cases m <;> rfl
  | succ n ih =>
    by_cases hbytes : bytes = []
    · subst hbytes
      cases m <;> rfl
    · have hlt := length_drop_lt hK hbytes
      obtain ⟨m, rfl⟩ := Nat.exists_eq_succ_of_ne_zero (Nat.ne_of_gt (Nat.zero_lt_of_lt (hlt.trans_le hm)))
      rw [chunks, chunks, if_neg hbytes, if_neg hbytes, ih (m := m) (by omega) (by omega)]

theorem eccEncode_nil (p : Params) : eccEncode p [] = [] := rfl

/-- A payload is encoded chunk by chunk. -/
theorem eccEncode_of_ne_nil {p : Params} (hK : 0 < p.K) {bytes : List Byte} (h : bytes ≠ []) :
    eccEncode p bytes = rsEncode p.P (firstChunk p.K bytes) ++ eccEncode p (bytes.drop p.K) := by
  have hlt := length_drop_lt hK h
  obtain ⟨n, hn⟩ := Nat.exists_eq_succ_of_ne_zero (Nat.ne_of_gt (List.length_pos_of_ne_nil h))
  rw [eccEncode, hn, chunks, if_neg h, List.flatMap_cons,
    chunks_congr hK (m := (bytes.drop p.K).length) (by omega) le_rfl]
  rfl

/-- A full chunk is encoded apart from the bytes behind it. -/
theorem eccEncode_append_of_length {p : Params} (hK : 0 < p.K) {m : List Byte} (h : m.length = p.K)
    (bytes : List Byte) : eccEncode p (m ++ bytes) = rsEncode p.P m ++ eccEncode p bytes := by
  have hne : m ++ bytes ≠ [] := by
    rintro hnil
    rw [(List.append_eq_nil_iff.mp hnil).1] at h
    exact hK.ne h
  rw [eccEncode_of_ne_nil hK hne, firstChunk_append_of_length h, ← h, List.drop_left]

/-- A last chunk is padded (R174). -/
theorem eccEncode_of_length_le {p : Params} (hK : 0 < p.K) {m : List Byte} (hne : m ≠ []) (h : m.length ≤ p.K) :
    eccEncode p m = rsEncode p.P (m ++ List.replicate (p.K - m.length) Config.pad) := by
  rw [eccEncode_of_ne_nil hK hne, firstChunk_of_length_le h, List.drop_eq_nil_of_le h, eccEncode_nil, List.append_nil]

/-- Rounding up counts the first chunk and those of the rest. -/
theorem ceil_div_eq_succ {n K : Nat} (hK : 0 < K) (hn : 0 < n) :
    (n + (K - 1)) / K = (n - K + (K - 1)) / K + 1 := by
  rw [← Nat.add_div_right _ hK]
  rcases Nat.le_total K n with h | h
  · rw [show n - K + (K - 1) + K = n + (K - 1) by omega]
  · have hone : (n + (K - 1)) / K = 1 := Nat.div_eq_of_lt_le (by omega) (by omega)
    rw [hone, Nat.sub_eq_zero_of_le h, Nat.add_div_right _ hK, Nat.div_eq_of_lt (by omega)]

/-- `ceil(L/K)` codewords of `N` bytes (R174, R247). -/
theorem length_eccEncode {p : Params} (hK : 0 < p.K) (bytes : List Byte) :
    (eccEncode p bytes).length = p.N * ((bytes.length + (p.K - 1)) / p.K) := by
  induction hlen : bytes.length using Nat.strong_induction_on generalizing bytes with
  | _ len ih =>
    subst hlen
    by_cases hbytes : bytes = []
    · subst hbytes
      rw [eccEncode_nil, List.length_nil, Nat.zero_add, Nat.div_eq_of_lt (Nat.sub_one_lt hK.ne'), Nat.mul_zero]
    · have hpos := List.length_pos_of_ne_nil hbytes
      rw [eccEncode_of_ne_nil hK hbytes, List.length_append, length_rsEncode, length_firstChunk,
        ih _ (length_drop_lt hK hbytes) _ rfl, List.length_drop, ceil_div_eq_succ hK hpos, Nat.mul_succ,
        Params.N, Nat.add_comm p.K, Nat.add_comm]

end Sys2Proof.Machine
end

section
/-!
An encode session (spec/45_datapath.md R242 to R247). The picture after any number of digits is the one of R246 for the
digits so far: the frames they fill have been emitted, and the frame memory shows the frame in progress. Each part of
the datapath keeps that, with more digits.
-/

namespace Sys2Proof.Machine

/-! ### The frames of a digit sequence (R246) -/

section

variable (s : State)

/-- The image of one frame of a session. -/
def State.sessionImage (ds : List Digit) (f : Nat) : List Byte := (List.range s.frameBytes).map (s.sessionByte ds f)

/-- The frames that the digits fill. -/
def State.fullFrames (ds : List Digit) : List Event :=
  (List.range (ds.length / s.cnt)).map fun f => .emitFrame (s.sessionImage ds f)

theorem sessionFrames_eq (ds : List Digit) : s.sessionFrames ds =
    (List.range ((ds.length + (s.cnt - 1)) / s.cnt)).map fun f => .emitFrame (s.sessionImage ds f) := rfl

/-- A byte of a frame by the block it lies in. -/
theorem sessionByte_eq (ds : List Digit) (f a : Nat) : s.sessionByte ds f a =
    ((s.blockAt a).bind fun j => ds[f * s.cnt + j]?).elim 0 fun d => (colorRom d).channel (a % 3) := by
  simp only [State.sessionByte, State.blockAt]
  split_ifs
  · rw [Option.bind_some]
    cases ds[f * s.cnt + _]? <;> rfl
  · rfl

end

section

variable {s : State} {ds : List Digit}

/-- A frame that is full has its final picture. -/
theorem sessionByte_append_of_full {f : Nat} (h : (f + 1) * s.cnt ≤ ds.length) (es : List Digit) (a : Nat) :
    s.sessionByte (ds ++ es) f a = s.sessionByte ds f a := by
  rw [sessionByte_eq, sessionByte_eq]
  cases hj : s.blockAt a with
  | none => rfl
  | some j =>
    have hlt := blockAt_lt hj
    rw [Nat.succ_mul] at h
    rw [Option.bind_some, Option.bind_some, List.getElem?_append_left (by omega)]

/-- The next digit paints the next block of the frame in progress. -/
theorem sessionByte_append_singleton (d : Digit) (a : Nat) :
    s.sessionByte (ds ++ [d]) (ds.length / s.cnt) a =
      if s.blockAt a = some (ds.length % s.cnt) then (colorRom d).channel (a % 3)
      else s.sessionByte ds (ds.length / s.cnt) a := by
  have hlen := Nat.div_add_mod' ds.length s.cnt
  rw [sessionByte_eq, sessionByte_eq]
  cases s.blockAt a with
  | none => rfl
  | some j =>
    rw [Option.bind_some, Option.bind_some]
    by_cases hj : j = ds.length % s.cnt
    · rw [hj, if_pos rfl, hlen, List.getElem?_concat_length]
      rfl
    · rw [if_neg (mt Option.some.inj hj)]
      rcases Nat.lt_or_gt_of_ne hj with hlt | hgt
      · rw [List.getElem?_append_left (by omega)]
      · rw [List.getElem?_eq_none (by simp; omega), List.getElem?_eq_none (by omega)]

/-- A frame begins blank. -/
theorem sessionByte_of_length_le {f : Nat} (h : ds.length ≤ f * s.cnt) (a : Nat) : s.sessionByte ds f a = 0 := by
  rw [sessionByte_eq]
  cases s.blockAt a with
  | none => rfl
  | some j =>
    rw [Option.bind_some, List.getElem?_eq_none (by omega)]
    rfl

theorem sessionImage_append_of_full {f : Nat} (h : (f + 1) * s.cnt ≤ ds.length) (es : List Digit) :
    s.sessionImage (ds ++ es) f = s.sessionImage ds f :=
  List.map_congr_left fun a _ => sessionByte_append_of_full h es a

theorem succ_div_mod_of_last {n c : Nat} (h : n % c + 1 = c) : (n + 1) / c = n / c + 1 ∧ (n + 1) % c = 0 := by
  have hlen := Nat.mod_add_div n c
  refine (Nat.div_mod_unique (Nat.lt_of_lt_of_eq (Nat.succ_pos _) h)).mpr ⟨?_, by omega⟩
  rw [Nat.mul_succ]
  omega

theorem succ_div_mod_of_not_last {n c : Nat} (hc : 0 < c) (h : n % c + 1 ≠ c) :
    (n + 1) / c = n / c ∧ (n + 1) % c = n % c + 1 := by
  have hlen := Nat.mod_add_div n c
  have hlt := Nat.mod_lt n hc
  exact (Nat.div_mod_unique hc).mpr ⟨by omega, by omega⟩

theorem map_range_sessionImage_append (es : List Digit) :
    (List.range (ds.length / s.cnt)).map (fun f => Event.emitFrame (s.sessionImage (ds ++ es) f)) = s.fullFrames ds :=
  List.map_congr_left fun f hf => by
    have hfull : (f + 1) * s.cnt ≤ ds.length :=
      (Nat.mul_le_mul_right _ (List.mem_range.mp hf)).trans (Nat.div_mul_le_self ..)
    rw [sessionImage_append_of_full hfull]

/-- The digit of the last block fills the frame. -/
theorem fullFrames_append_of_last (h : ds.length % s.cnt + 1 = s.cnt) (d : Digit) :
    s.fullFrames (ds ++ [d]) = s.fullFrames ds ++ [.emitFrame (s.sessionImage (ds ++ [d]) (ds.length / s.cnt))] := by
  rw [State.fullFrames, List.length_append, List.length_singleton, (succ_div_mod_of_last h).1, List.range_succ,
    List.map_append, map_range_sessionImage_append]
  rfl

theorem fullFrames_append_of_not_last (hcnt : 0 < s.cnt) (h : ds.length % s.cnt + 1 ≠ s.cnt) (d : Digit) :
    s.fullFrames (ds ++ [d]) = s.fullFrames ds := by
  rw [State.fullFrames, List.length_append, List.length_singleton, (succ_div_mod_of_not_last hcnt h).1,
    map_range_sessionImage_append]

/-- The frames of a session are those its digits fill and, when they stop inside one, that frame (R245, R247). -/
theorem sessionFrames_of_mod_eq_zero (hcnt : 0 < s.cnt) (h : ds.length % s.cnt = 0) :
    s.sessionFrames ds = s.fullFrames ds := by
  have hceil : (ds.length + (s.cnt - 1)) / s.cnt = ds.length / s.cnt := by
    obtain ⟨k, hk⟩ := Nat.dvd_of_mod_eq_zero h
    rw [hk, Nat.mul_add_div hcnt, Nat.div_eq_of_lt (Nat.sub_one_lt hcnt.ne'), Nat.add_zero, Nat.mul_div_right _ hcnt]
  rw [sessionFrames_eq, hceil]
  rfl

theorem sessionFrames_of_mod_ne_zero (hcnt : 0 < s.cnt) (h : ds.length % s.cnt ≠ 0) :
    s.sessionFrames ds = s.fullFrames ds ++ [.emitFrame (s.sessionImage ds (ds.length / s.cnt))] := by
  have hlt := Nat.mod_lt ds.length hcnt
  have hlen := Nat.mod_add_div ds.length s.cnt
  have hceil : (ds.length + (s.cnt - 1)) / s.cnt = ds.length / s.cnt + 1 :=
    ((Nat.div_mod_unique hcnt (c := ds.length % s.cnt - 1)).mpr ⟨by rw [Nat.mul_succ]; omega, by omega⟩).1
  rw [sessionFrames_eq, hceil, List.range_succ, List.map_append]
  rfl

end

/-- The cursor's 24 bits hold every block index (R24). -/
theorem cnt_lt (s : State) : s.cnt < 2 ^ 24 := by
  have hle : ∀ n m : Nat, n < 4096 → n / m ≤ 4095 := fun n m h => (Nat.div_le_self n m).trans (Nat.le_of_lt_succ h)
  rw [cnt_eq_div_mul_div]
  calc _ ≤ 4095 * 4095 := Nat.mul_le_mul (hle _ _ s.geomW.isLt) (hle _ _ s.geomH.isLt)
    _ < 2 ^ 24 := by norm_num

/-! ### What painting and encoding leave alone -/

/-- `t` is `s` with other values in the digit converter, the cursor and the frame at most. -/
def State.OnlyPaints (s t : State) : Prop :=
  t = { s with dscByte := t.dscByte, dscPh := t.dscPh, cur := t.cur, frame := t.frame }

/-- `t` is `s` with other values in the encoder's registers, the cursor, the frame and the response at most. -/
def State.OnlyEncodes (s t : State) : Prop :=
  t = { s with
    par := t.par, rseCnt := t.rseCnt, dscByte := t.dscByte, dscPh := t.dscPh, cur := t.cur, frame := t.frame,
    response := t.response }

section

variable {s t u : State}

theorem State.OnlyPaints.trans (hst : s.OnlyPaints t) (htu : t.OnlyPaints u) : s.OnlyPaints u := by
  rw [State.OnlyPaints] at hst htu ⊢
  rw [htu, hst]

theorem State.OnlyPaints.par_eq (h : s.OnlyPaints t) : t.par = s.par := by rw [h]

theorem State.OnlyPaints.rseCnt_eq (h : s.OnlyPaints t) : t.rseCnt = s.rseCnt := by rw [h]

theorem State.OnlyPaints.onlyEncodes (h : s.OnlyPaints t) : s.OnlyEncodes t := by
  rw [State.OnlyPaints] at h
  rw [State.OnlyEncodes, h]

namespace State.OnlyEncodes

theorem trans (hst : s.OnlyEncodes t) (htu : t.OnlyEncodes u) : s.OnlyEncodes u := by
  rw [State.OnlyEncodes] at hst htu ⊢
  rw [htu, hst]

variable (h : s.OnlyEncodes t)
include h

theorem cfg_eq : t.cfg = s.cfg := by rw [h]

theorem fault_eq : t.fault = s.fault := by rw [h]

theorem frameEpoch_eq : t.frameEpoch = s.frameEpoch := by rw [h]

theorem cnt_eq : t.cnt = s.cnt := by
  rw [h]
  rfl

theorem frameBytes_eq : t.frameBytes = s.frameBytes := by
  rw [h]
  rfl

theorem blockAt_eq : t.blockAt = s.blockAt := by
  rw [h]
  rfl

end State.OnlyEncodes

end

/-! ### Digits and bytes painted (R243) -/

section

variable {e : EncodeRun}

theorem paintDigit_of_last (d : Digit) (h : e.state.lastBlock = true) :
    e.paintDigit d = (EncodeRun.mk (e.state.paintBlock (colorRom d)) e.events).emit := if_pos h

theorem paintDigit_of_not_last (d : Digit) (h : e.state.lastBlock = false) :
    e.paintDigit d = ⟨{ e.state.paintBlock (colorRom d) with cur := e.state.cur + 1 }, e.events⟩ :=
  if_neg (Bool.eq_false_iff.mp h)

theorem paintDigit_onlyPaints (e : EncodeRun) (d : Digit) : e.state.OnlyPaints (e.paintDigit d).state := by
  cases h : e.state.lastBlock with
  | false =>
    rw [paintDigit_of_not_last d h]
    rfl
  | true =>
    rw [paintDigit_of_last d h]
    rfl

/-- The digit converter after a byte whose digits are all delivered. -/
def State.converted (s : State) (x : Byte) : State := { s with dscByte := x, dscPh := 0 }

theorem converted_onlyPaints (s : State) (x : Byte) : s.OnlyPaints (s.converted x) := rfl

theorem emitByte_eq (e : EncodeRun) (x : Byte) :
    e.emitByte x =
      let e' := ((e.paintDigit (digitsOf x).1).paintDigit (digitsOf x).2.1).paintDigit (digitsOf x).2.2
      ⟨e'.state.converted x, e'.events⟩ := rfl

theorem emitByte_onlyPaints (e : EncodeRun) (x : Byte) : e.state.OnlyPaints (e.emitByte x).state := by
  rw [emitByte_eq]
  exact ((paintDigit_onlyPaints e _).trans (paintDigit_onlyPaints _ _)).trans
    ((paintDigit_onlyPaints _ _).trans (converted_onlyPaints _ x))

end

/-- A run in a session begun in `s`, of which `before` are the events of the earlier responses: it has painted the
digits `ds`. -/
structure Drawn (s : State) (before : List Event) (ds : List Digit) (e : EncodeRun) : Prop where
  same : s.OnlyEncodes e.state
  cur : e.state.cur.toNat = ds.length % s.cnt
  byte : ∀ a < s.frameBytes, e.state.readByte a = s.sessionByte ds (ds.length / s.cnt) a
  events : before ++ e.events = s.fullFrames ds

namespace Drawn

variable {s : State} {before : List Event} {ds : List Digit} {e : EncodeRun}

theorem lastBlock_iff (h : Drawn s before ds e) : e.state.lastBlock = true ↔ ds.length % s.cnt + 1 = s.cnt := by
  rw [Machine.lastBlock_iff, h.cur, h.same.cnt_eq]

theorem frameImage_eq (h : Drawn s before ds e) : e.state.frameImage = s.sessionImage ds (ds.length / s.cnt) := by
  rw [State.frameImage, State.sessionImage, h.same.frameBytes_eq]
  exact List.map_congr_left fun a ha => h.byte a (List.mem_range.mp ha)

/-- The block at the cursor painted with one more digit. -/
theorem byte_paintBlock (hcnt : 0 < s.cnt) (h : Drawn s before ds e) (d : Digit) {a : Nat} (ha : a < s.frameBytes) :
    (e.state.paintBlock (colorRom d)).readByte a = s.sessionByte (ds ++ [d]) (ds.length / s.cnt) a := by
  have hcur : e.state.cur.toNat < e.state.cnt := by
    rw [h.cur, h.same.cnt_eq]
    exact Nat.mod_lt _ hcnt
  rw [readByte_paintBlock hcur, h.cur, h.same.blockAt_eq, sessionByte_append_singleton, h.byte a ha]

theorem paintDigit (hcnt : 0 < s.cnt) (h : Drawn s before ds e) (d : Digit) :
    Drawn s before (ds ++ [d]) (e.paintDigit d) := by
  have hsame := h.same.trans (paintDigit_onlyPaints e d).onlyEncodes
  have hlen : (ds ++ [d]).length = ds.length + 1 := List.length_append
  by_cases hlast : ds.length % s.cnt + 1 = s.cnt
  · obtain ⟨hdiv, hmod⟩ := succ_div_mod_of_last hlast
    have himage : (e.state.paintBlock (colorRom d)).frameImage = s.sessionImage (ds ++ [d]) (ds.length / s.cnt) := by
      rw [State.frameImage, State.sessionImage, paintBlock_frameBytes, h.same.frameBytes_eq]
      exact List.map_congr_left fun a ha => h.byte_paintBlock hcnt d (List.mem_range.mp ha)
    rw [paintDigit_of_last d (h.lastBlock_iff.mpr hlast)] at hsame ⊢
    refine ⟨hsame, ?_, fun a ha => ?_, ?_⟩
    · rw [hlen, hmod]
      rfl
    · have hblank : (e.state.paintBlock (colorRom d)).blankFrame.readByte a = 0 := by
        rw [readByte_blankFrame, paintBlock_frameBytes, h.same.frameBytes_eq, if_pos ha]
      rw [sessionByte_of_length_le (by rw [hlen, Nat.div_mul_cancel (Nat.dvd_of_mod_eq_zero hmod)])]
      exact hblank
    · rw [fullFrames_append_of_last hlast, ← h.events, ← himage, List.append_assoc]
      rfl
  · obtain ⟨hdiv, hmod⟩ := succ_div_mod_of_not_last hcnt hlast
    have hcur : e.state.cur.toNat + 1 < 2 ^ 24 := by
      rw [h.cur]
      exact (Nat.succ_le_of_lt (Nat.mod_lt _ hcnt)).trans_lt (cnt_lt s)
    rw [paintDigit_of_not_last d (Bool.eq_false_iff.mpr (mt h.lastBlock_iff.mp hlast))] at hsame ⊢
    refine ⟨hsame, ?_, fun a ha => ?_, ?_⟩
    · rw [hlen, hmod, ← h.cur]
      exact BitVec.toNat_add_of_lt hcur
    · rw [hlen, hdiv]
      exact h.byte_paintBlock hcnt d ha
    · rw [fullFrames_append_of_not_last hcnt hlast]
      exact h.events

end Drawn
end Sys2Proof.Machine
end

section
/-!
The bytes of an encode session (spec/45_datapath.md R243 to R246): `ENC.BYTE` and `ENC.END` send the payload in chunks,
each as a codeword, so that the digits painted are those of `ecc_encode`.
-/

namespace Sys2Proof.Machine

/-! ### Bytes painted (R243) -/

namespace Drawn

variable {s : State} {before : List Event} {ds : List Digit} {e : EncodeRun}

/-- What is written beside the cursor and the frame does not touch the picture. -/
theorem of_onlyEncodes (h : Drawn s before ds e) {t : State} (hsame : e.state.OnlyEncodes t)
    (hcur : t.cur = e.state.cur) (hframe : t.frame = e.state.frame) : Drawn s before ds ⟨t, e.events⟩ := by
  refine ⟨h.same.trans hsame, by rw [hcur, h.cur], fun a ha => ?_, h.events⟩
  rw [← h.byte a ha, readByte_eq, readByte_eq, hframe, hsame.frameEpoch_eq]

theorem converted (h : Drawn s before ds e) (x : Byte) : Drawn s before ds ⟨e.state.converted x, e.events⟩ :=
  h.of_onlyEncodes rfl rfl rfl

theorem rseTake (h : Drawn s before ds e) (b : Byte) : Drawn s before ds ⟨e.state.rseTake b, e.events⟩ :=
  h.of_onlyEncodes rfl rfl rfl

theorem rseClear (h : Drawn s before ds e) : Drawn s before ds ⟨e.state.rseClear, e.events⟩ :=
  h.of_onlyEncodes rfl rfl rfl

/-- Between two commands, the events so far are those of earlier responses. -/
theorem respond (h : Drawn s before ds e) (rsp : Word48) (events : List Event) :
    Drawn s (before ++ e.events) ds ⟨e.state.answer rsp events, []⟩ := by
  have hanswer := h.of_onlyEncodes (t := e.state.answer rsp events) rfl rfl rfl
  exact ⟨hanswer.same, hanswer.cur, hanswer.byte, by rw [List.append_nil, h.events]⟩

theorem emitByte (hcnt : 0 < s.cnt) (h : Drawn s before ds e) (x : Byte) :
    Drawn s before (ds ++ digitStream [x]) (e.emitByte x) := by
  have hdigits : ds ++ digitStream [x] =
      ds ++ [(digitsOf x).1] ++ [(digitsOf x).2.1] ++ [(digitsOf x).2.2] := by
    rw [digitStream_cons, List.append_assoc, List.append_assoc]
    rfl
  rw [hdigits, emitByte_eq]
  exact (((h.paintDigit hcnt _).paintDigit hcnt _).paintDigit hcnt _).converted x

theorem emitBytes (hcnt : 0 < s.cnt) (h : Drawn s before ds e) (bytes : List Byte) :
    Drawn s before (ds ++ digitStream bytes) (bytes.foldl EncodeRun.emitByte e) := by
  induction bytes generalizing ds e with
  | nil => simpa [digitStream] using h
  | cons x bytes ih =>
    rw [List.foldl_cons, ← List.singleton_append, digitStream_append, ← List.append_assoc]
    exact ih (h.emitByte hcnt x)

/-- The last frame is emitted when a block of it is painted (R245). -/
theorem flush (hcnt : 0 < s.cnt) (h : Drawn s before ds e) : before ++ e.flush.events = s.sessionFrames ds := by
  have hzero : e.state.cur = 0 ↔ ds.length % s.cnt = 0 := by
    rw [← h.cur]
    exact BitVec.toNat_inj.symm
  unfold EncodeRun.flush
  split_ifs with hcur
  · rw [sessionFrames_of_mod_eq_zero hcnt (hzero.mp hcur), h.events]
  · rw [sessionFrames_of_mod_ne_zero hcnt (mt hzero.mpr hcur), ← h.events, ← h.frameImage_eq, List.append_assoc]
    rfl

end Drawn

/-! ### One byte of the payload (R244) -/

/-- The byte through the register and painted, before the chunk is closed. -/
def EncodeRun.sendByte (e : EncodeRun) (b : Byte) : EncodeRun := (EncodeRun.mk (e.state.rseTake b) e.events).emitByte b

/-- The parity of a full chunk sent, and the register cleared. -/
def EncodeRun.closeChunk (e : EncodeRun) : EncodeRun :=
  ⟨(e.state.par.foldl EncodeRun.emitByte e).state.rseClear, (e.state.par.foldl EncodeRun.emitByte e).events⟩

theorem emitByte_dscPh (e : EncodeRun) (x : Byte) : (e.emitByte x).state.dscPh = 0 := rfl

theorem emitBytes_dscPh {e : EncodeRun} (h : e.state.dscPh = 0) (bytes : List Byte) :
    (bytes.foldl EncodeRun.emitByte e).state.dscPh = 0 := by
  induction bytes generalizing e with
  | nil => exact h
  | cons x bytes ih =>
    rw [List.foldl_cons]
    exact ih (emitByte_dscPh e x)

theorem takeByte_eq (e : EncodeRun) (b : Byte) : e.takeByte b =
    if (e.sendByte b).state.rseCnt.toNat = (e.sendByte b).state.cfg.K then (e.sendByte b).closeChunk
    else e.sendByte b := rfl

/-- A run that has sent the bytes `sent` in whole codewords and the bytes `chunk` of an open chunk. -/
structure Sent (s : State) (before : List Event) (sent chunk : List Byte) (e : EncodeRun) : Prop where
  drawn : Drawn s before (digitStream (sent ++ chunk)) e
  dscPh : e.state.dscPh = 0
  par : e.state.par = chunk.foldl (lfsrStep s.cfg.P) (List.replicate s.cfg.P 0)
  rseCnt : e.state.rseCnt.toNat = chunk.length
  short : chunk.length < s.cfg.K

namespace Sent

variable {s : State} {before : List Event} {sent chunk : List Byte} {e : EncodeRun}

/-- The run one byte on, whether the chunk is full or not. -/
theorem sendByte (hcnt : 0 < s.cnt) (h : Sent s before sent chunk e) (b : Byte) :
    Drawn s before (digitStream (sent ++ (chunk ++ [b]))) (e.sendByte b) ∧
    (e.sendByte b).state.dscPh = 0 ∧
    (e.sendByte b).state.par = (chunk ++ [b]).foldl (lfsrStep s.cfg.P) (List.replicate s.cfg.P 0) ∧
    (e.sendByte b).state.rseCnt = e.state.rseCnt + 1 := by
  have hpaint := emitByte_onlyPaints ⟨e.state.rseTake b, e.events⟩ b
  refine ⟨?_, emitByte_dscPh _ b, ?_, hpaint.rseCnt_eq⟩
  · rw [← List.append_assoc, digitStream_append]
    exact (h.drawn.rseTake b).emitByte hcnt b
  · rw [List.foldl_append, ← h.par, ← h.drawn.same.cfg_eq]
    exact hpaint.par_eq

/-- The chunk closed: its parity follows its bytes, and the register is clear again. -/
theorem closeChunk (hcnt : 0 < s.cnt) (hK : 0 < s.cfg.K) (h : Drawn s before (digitStream (sent ++ chunk)) e)
    (hdscPh : e.state.dscPh = 0) (hpar : e.state.par = chunk.foldl (lfsrStep s.cfg.P) (List.replicate s.cfg.P 0)) :
    Sent s before (sent ++ rsEncode s.cfg.P chunk) [] e.closeChunk := by
  have hparity := h.emitBytes hcnt e.state.par
  rw [← digitStream_append, List.append_assoc, hpar, ← rsEncode_eq_foldl, ← hpar] at hparity
  refine ⟨?_, emitBytes_dscPh hdscPh e.state.par, ?_, rfl, hK⟩
  · rw [List.append_nil]
    exact hparity.rseClear
  · rw [EncodeRun.closeChunk, rseClear_par, hparity.same.cfg_eq]
    rfl

theorem takeByte_of_last (hwf : s.cfg.WellFormed) (hcnt : 0 < s.cnt) (h : Sent s before sent chunk e) (b : Byte)
    (hlast : chunk.length + 1 = s.cfg.K) :
    Sent s before (sent ++ rsEncode s.cfg.P (chunk ++ [b])) [] (e.takeByte b) := by
  obtain ⟨hK, -, hN, -⟩ := hwf
  obtain ⟨hdrawn, hdscPh, hpar, hrseCnt⟩ := h.sendByte hcnt b
  have hfull : (e.sendByte b).state.rseCnt.toNat = (e.sendByte b).state.cfg.K := by
    rw [hrseCnt, hdrawn.same.cfg_eq, toNat_count_add_one (by rw [h.rseCnt]; omega), h.rseCnt, hlast]
  rw [takeByte_eq, if_pos hfull]
  exact closeChunk hcnt hK hdrawn hdscPh hpar

theorem takeByte_of_not_last (hwf : s.cfg.WellFormed) (hcnt : 0 < s.cnt) (h : Sent s before sent chunk e) (b : Byte)
    (hlast : chunk.length + 1 ≠ s.cfg.K) : Sent s before sent (chunk ++ [b]) (e.takeByte b) := by
  obtain ⟨-, -, hN, -⟩ := hwf
  have hshort := h.short
  obtain ⟨hdrawn, hdscPh, hpar, hrseCnt⟩ := h.sendByte hcnt b
  have hcount : (e.sendByte b).state.rseCnt.toNat = chunk.length + 1 := by
    rw [hrseCnt, toNat_count_add_one (by rw [h.rseCnt]; omega), h.rseCnt]
  have hopen : (e.sendByte b).state.rseCnt.toNat ≠ (e.sendByte b).state.cfg.K := by
    rwa [hcount, hdrawn.same.cfg_eq]
  rw [takeByte_eq, if_neg hopen]
  exact ⟨hdrawn, hdscPh, hpar, by rw [hcount, List.length_append, List.length_singleton],
    by rw [List.length_append, List.length_singleton]; omega⟩

/-- The padding fills the open chunk and sends it (R245). -/
theorem padChunk_of_open (hwf : s.cfg.WellFormed) (hcnt : 0 < s.cnt) {n : Nat} (h : Sent s before sent chunk e)
    (hne : chunk ≠ []) (hlen : chunk.length + n = s.cfg.K) :
    Sent s before (sent ++ rsEncode s.cfg.P (chunk ++ List.replicate n Config.pad)) [] (e.padChunk n) := by
  induction n generalizing chunk e with
  | zero => exact absurd h.short (by omega)
  | succ n ih =>
    have hopen : e.state.rseCnt ≠ 0 := by
      intro hzero
      have hcount := h.rseCnt
      rw [hzero] at hcount
      exact hne (List.eq_nil_of_length_eq_zero hcount.symm)
    rw [EncodeRun.padChunk, if_neg hopen, List.replicate_succ, ← List.singleton_append, ← List.append_assoc]
    by_cases hlast : chunk.length + 1 = s.cfg.K
    · obtain rfl : n = 0 := by omega
      rw [List.replicate_zero, List.append_nil]
      exact h.takeByte_of_last hwf hcnt Config.pad hlast
    · exact ih (h.takeByte_of_not_last hwf hcnt Config.pad hlast) (by simp) (by
        rw [List.length_append, List.length_singleton]
        omega)

/-- A chunk with no bytes is not open, and nothing is padded (R245). -/
theorem padChunk_of_empty (h : Sent s before sent [] e) (n : Nat) : e.padChunk n = e := by
  cases n with
  | zero => rfl
  | succ n => exact if_pos (BitVec.eq_of_toNat_eq h.rseCnt)

/-- After the padding the digits painted are those of the encoded payload. -/
theorem padChunk (hwf : s.cfg.WellFormed) (hcnt : 0 < s.cnt) (h : Sent s before sent chunk e) :
    Drawn s before (digitStream (sent ++ eccEncode s.cfg chunk)) (e.padChunk (s.cfg.K - chunk.length)) := by
  have hshort := h.short
  by_cases hne : chunk = []
  · subst hne
    rw [h.padChunk_of_empty, eccEncode_nil]
    exact h.drawn
  · have hpad := (h.padChunk_of_open hwf hcnt hne (Nat.add_sub_cancel' hshort.le)).drawn
    rwa [List.append_nil, ← eccEncode_of_length_le (Nat.zero_lt_of_lt hshort) hne hshort.le] at hpad

theorem respond (h : Sent s before sent chunk e) (rsp : Word48) (events : List Event) :
    Sent s (before ++ e.events) sent chunk ⟨e.state.answer rsp events, []⟩ :=
  ⟨h.drawn.respond rsp events, h.dscPh, h.par, h.rseCnt, h.short⟩

end Sent

/-! ### The commands of a session -/

theorem finish_result (t : State) (e : EncodeRun) :
    finish t (.ok e.result) = .next (e.state.answer (numField e.events.length) e.events) := rfl

section

variable {s t : State} {before : List Event} {sent chunk : List Byte}

/-- The checks of `ENC.BYTE` and `ENC.END` pass inside a session. -/
theorem Sent.encodeReady (hcnt : 0 < s.cnt) (h : Sent s before sent chunk ⟨t, []⟩) (op : Word48)
    (body : Except Stop Done) : Machine.encodeReady t op body = body := by
  have hcntEq : t.cnt = s.cnt := h.drawn.same.cnt_eq
  have hcfg : t.cfg = s.cfg := h.drawn.same.cfg_eq
  have hnot : ¬ (t.dscPh ≠ 0 ∨ t.rseCnt.toNat = t.cfg.K) := by
    rintro (hph | hfull)
    · exact hph h.dscPh
    · exact h.short.ne (h.rseCnt.symm.trans (hfull.trans (congrArg Params.K hcfg)))
  rw [Machine.encodeReady, if_neg (hcntEq ▸ hcnt.ne'), if_neg hnot]

theorem Sent.cur_lt (hcnt : 0 < s.cnt) (h : Sent s before sent chunk ⟨t, []⟩) : t.cur.toNat < t.cnt := by
  have hcur : t.cur.toNat = _ := h.drawn.cur
  rw [hcur, h.drawn.same.cnt_eq]
  exact Nat.mod_lt _ hcnt

variable (hfault : s.fault = none) (hcnt : 0 < s.cnt) (h : Sent s before sent chunk ⟨t, []⟩)
include hfault hcnt h

theorem Sent.exec_encByte (b : Byte) :
    let e := (EncodeRun.mk t []).takeByte b
    exec (.encByte b) t = .next (e.state.answer (numField e.events.length) e.events) := by
  change execEncByte b t = _
  rw [execEncByte, command_of_running (h.drawn.same.fault_eq.trans hfault), h.encodeReady hcnt,
    if_neg (h.cur_lt hcnt).not_ge, finish_result]

theorem Sent.exec_encEnd :
    let e := ((EncodeRun.mk t []).padChunk (s.cfg.K - chunk.length)).flush.close
    exec .encEnd t = .next (e.state.answer (numField e.events.length) e.events) := by
  have hcfg : t.cfg = s.cfg := h.drawn.same.cfg_eq
  have hcount : t.rseCnt.toNat = chunk.length := h.rseCnt
  change execEncEnd t = _
  rw [execEncEnd, command_of_running (h.drawn.same.fault_eq.trans hfault), h.encodeReady hcnt,
    if_neg (fun hout => (h.cur_lt hcnt).not_ge hout.2), hcfg, hcount, finish_result]

end

/-- A session whose first command completes with events. -/
theorem session_cons_of_some {i : Instr} {is : List Instr} {s t u : State} {rsp : Word48} {events more : List Event}
    (h : exec i s = .next (t.answer rsp events)) (hrest : session is (t.answer rsp events) = some (u, more)) :
    session (i :: is) s = some (u, events ++ more) := by
  rw [session, h]
  dsimp only [answer_response]
  rw [if_pos rfl, hrest]

/-- The payload's bytes and the end of the session, from any point of it. -/
theorem session_encBytes {s : State} (hwf : s.cfg.WellFormed) (hfault : s.fault = none) (hcnt : 0 < s.cnt)
    (bytes : List Byte) {before : List Event} {sent chunk : List Byte} {t : State}
    (h : Sent s before sent chunk ⟨t, []⟩) :
    ∃ u events, session (bytes.map .encByte ++ [.encEnd]) t = some (u, events) ∧
      before ++ events = s.sessionFrames (digitStream (sent ++ eccEncode s.cfg (chunk ++ bytes))) := by
  have hK : 0 < s.cfg.K := Nat.zero_lt_of_lt h.short
  induction bytes generalizing before sent chunk t with
  | nil =>
    refine ⟨_, _, session_cons_of_some (h.exec_encEnd hfault hcnt) rfl, ?_⟩
    rw [List.append_nil, List.append_nil]
    exact (h.padChunk hwf hcnt).flush hcnt
  | cons b bytes ih =>
    have hexec := h.exec_encByte hfault hcnt b
    by_cases hlast : chunk.length + 1 = s.cfg.K
    · have hlen : (chunk ++ [b]).length = s.cfg.K := List.length_append.trans hlast
      obtain ⟨u, events, hsession, hframes⟩ := ih ((h.takeByte_of_last hwf hcnt b hlast).respond _ _)
      refine ⟨u, _, session_cons_of_some hexec hsession, ?_⟩
      rw [← List.append_assoc, List.append_cons, eccEncode_append_of_length hK hlen, ← List.append_assoc]
      exact hframes
    · obtain ⟨u, events, hsession, hframes⟩ := ih ((h.takeByte_of_not_last hwf hcnt b hlast).respond _ _)
      refine ⟨u, _, session_cons_of_some hexec hsession, ?_⟩
      rw [← List.append_assoc, List.append_cons]
      exact hframes

/-- A session begins with nothing painted (R241). -/
theorem sent_encodeStart {s : State} (hwf : s.cfg.WellFormed) :
    Sent s [] [] [] ⟨s.encodeStart.answer 0 [], []⟩ := by
  obtain ⟨hK, -⟩ := hwf
  refine ⟨⟨rfl, ?_, fun a ha => ?_, ?_⟩, rfl, rfl, rfl, hK⟩
  · exact (Nat.zero_mod _).symm
  · rw [sessionByte_of_length_le (Nat.zero_le _)]
    exact (readByte_encodeStart s a).trans (if_pos ha)
  · have hnone : digitStream ([] ++ []) = [] := rfl
    rw [hnone, State.fullFrames, List.length_nil, Nat.zero_div]
    rfl

/-- R246: a whole session, from any state with a legal geometry. -/
theorem session_encode {s : State} (hwf : s.cfg.WellFormed) (hfault : s.fault = none) (hcnt : 0 < s.cnt)
    (p : List Byte) : ∃ t, session (.encStart :: p.map .encByte ++ [.encEnd]) s =
      some (t, s.sessionFrames (digitStream (eccEncode s.cfg p))) := by
  obtain ⟨u, events, hsession, hframes⟩ := session_encBytes hwf hfault hcnt p (sent_encodeStart hwf)
  refine ⟨u, ?_⟩
  rw [List.cons_append, session_cons_of_answer (exec_encStart_of_grid hfault hcnt), hsession]
  exact congrArg (fun ev => some (u, ev)) hframes

/-- Settles O54: the session's frames, and its length in digits and in frames. -/
theorem encodeSessionEmitsThePaintedFrames : Obligations.EncodeSessionEmitsThePaintedFrames := by
  intro s p hinv hfault hcnt
  obtain ⟨hK, -⟩ := hinv.params
  obtain ⟨t, hsession⟩ := session_encode hinv.params hfault hcnt p
  have hlen : (digitStream (eccEncode s.cfg p)).length = 3 * (s.cfg.N * ((p.length + (s.cfg.K - 1)) / s.cfg.K)) := by
    rw [length_digitStream, length_eccEncode hK]
  refine ⟨hlen, t, hsession, ?_⟩
  rw [sessionFrames_eq, List.length_map, List.length_range, hlen]

end Sys2Proof.Machine
end

section
/-!
The decode commands of spec/45_datapath.md (R249 to R252): what each can do, and that none of them leaves a cursor
inside a frame that is used up. A block writes nothing outside the packer, the decoder unit and `OUT_CNT` before it
moves the cursor.
-/

namespace Sys2Proof.Machine

/-! ### The encodings -/

theorem encodesBare_decStart : EncodesBare 0xA0 .decStart := fun arg => decode_commandWord 0xA0 arg

theorem encodesBare_decFrame : EncodesBare 0xA1 .decFrame := fun arg => decode_commandWord 0xA1 arg

theorem encodesBare_decEos : EncodesBare 0xA3 .decEos := fun arg => decode_commandWord 0xA3 arg

/-! ### The session commands on a running block -/

section

variable {s : State} (hfault : s.fault = none)
include hfault

theorem exec_decStart_of_no_grid (hcnt : s.cnt = 0) : exec .decStart s = .next (s.takeFault .configError 0xA0) := by
  change execDecStart s = _
  rw [execDecStart, command_of_running hfault, if_pos hcnt, finish_raised]

theorem exec_decStart_of_no_length (hcnt : 0 < s.cnt) (hlen : s.lenSet = false) :
    exec .decStart s = .next (s.takeFault .sequenceError 0xA0) := by
  change execDecStart s = _
  rw [execDecStart, command_of_running hfault, if_neg hcnt.ne', if_pos hlen, finish_raised]

theorem exec_decStart_of_length (hcnt : 0 < s.cnt) (hlen : s.lenSet = true) :
    exec .decStart s = .next (s.decodeStart.answer 0 []) := by
  change execDecStart s = _
  rw [execDecStart, command_of_running hfault, if_neg hcnt.ne', if_neg (Bool.not_eq_false _ ▸ hlen), finish_ok]

theorem exec_decFrame_of_no_grid (hcnt : s.cnt = 0) : exec .decFrame s = .next (s.takeFault .configError 0xA1) := by
  change execDecFrame s = _
  rw [execDecFrame, command_of_running hfault, if_pos hcnt, finish_raised]

theorem exec_decFrame_of_valid (hcnt : 0 < s.cnt) (hvalid : s.frameValid = true) :
    exec .decFrame s = .next (s.takeFault .sequenceError 0xA1) := by
  change execDecFrame s = _
  rw [execDecFrame, command_of_running hfault, if_neg hcnt.ne', if_pos hvalid, finish_raised]

theorem exec_decFrame_of_not_valid (hcnt : 0 < s.cnt) (hvalid : s.frameValid = false) :
    exec .decFrame s = .next (({ s with frameValid := true } : State).answer 0 []) := by
  change execDecFrame s = _
  rw [execDecFrame, command_of_running hfault, if_neg hcnt.ne', if_neg (Bool.eq_false_iff.mp hvalid), finish_ok]

theorem exec_decEos_of_lt (hlt : s.outCnt.toNat < s.tgtLen.toNat) :
    exec .decEos s = .next (s.takeFault .sourceExhaustedEarly s.outCnt) := by
  change execDecEos s = _
  rw [execDecEos, command_of_running hfault, if_pos hlt, finish_raised]

theorem exec_decEos_of_le (hle : s.tgtLen.toNat ≤ s.outCnt.toNat) : exec .decEos s = .next (s.answer 0 []) := by
  change execDecEos s = _
  rw [execDecEos, command_of_running hfault, if_neg hle.not_gt, finish_ok]

end

/-! ### A symbol through the packer and the decoder (R251) -/

/-- `t` is `s` with other values in the packer, in the decoder unit and in `OUT_CNT` at most. -/
def State.OnlyDecodes (s t : State) : Prop :=
  t = { s with
    dacc := t.dacc, dcnt := t.dcnt, cwbuf := t.cwbuf, cwcnt := t.cwcnt, cflag := t.cflag, cwidx := t.cwidx,
    rsdBuf := t.rsdBuf, rsdCnt := t.rsdCnt, rsdOk := t.rsdOk, outCnt := t.outCnt }

namespace State.OnlyDecodes

variable {s t u : State}

theorem trans (hst : s.OnlyDecodes t) (htu : t.OnlyDecodes u) : s.OnlyDecodes u := by
  rw [State.OnlyDecodes] at hst htu ⊢
  rw [htu, hst]

theorem frameValid_eq (h : s.OnlyDecodes t) : t.frameValid = s.frameValid := by rw [h]

end State.OnlyDecodes

section

variable {s t : State}

theorem takeSymbol_of_partial (hdcnt : s.dcnt < 2) (d : Digit) (indet : Bool) :
    s.takeSymbol d indet = .ok ((s.sspTake d indet).1, []) := by
  rw [State.takeSymbol, sspTake_partial hdcnt]
  rfl

theorem takeSymbol_of_byte (hdcnt : ¬ s.dcnt < 2) (hcwcnt : s.cwcnt.toNat + 1 ≠ s.cfg.N) (d : Digit) (indet : Bool) :
    s.takeSymbol d indet = .ok ((s.sspTake d indet).1, []) := by
  rw [State.takeSymbol, sspTake_byte hdcnt]
  exact if_neg (mt of_decide_eq_true hcwcnt)

theorem takeSymbol_of_codeword (hdcnt : ¬ s.dcnt < 2) (hcwcnt : s.cwcnt.toNat + 1 = s.cfg.N) (d : Digit)
    (indet : Bool) : s.takeSymbol d indet = (s.sspTake d indet).1.decodeCodeword := by
  rw [State.takeSymbol, sspTake_byte hdcnt]
  exact if_pos (decide_eq_true hcwcnt)

theorem sspTake_onlyDecodes (s : State) (d : Digit) (indet : Bool) : s.OnlyDecodes (s.sspTake d indet).1 := by
  by_cases hdcnt : s.dcnt < 2
  · rw [sspTake_partial hdcnt]
    rfl
  · rw [sspTake_byte hdcnt]
    rfl

theorem decodeCodeword_onlyDecodes {out : List Byte} (h : s.decodeCodeword = .ok (t, out)) : s.OnlyDecodes t := by
  unfold State.decodeCodeword at h
  split at h
  · cases h
  · next hcorrect =>
    cases h
    obtain ⟨-, hu, -⟩ | ⟨-, c, -, hu, -⟩ := rsdCorrect_ok hcorrect
    all_goals
      rw [hu]
      rfl

/-- A symbol that is taken writes no register outside the decode datapath. -/
theorem takeSymbol_onlyDecodes {d : Digit} {indet : Bool} {out : List Byte} (h : s.takeSymbol d indet = .ok (t, out)) :
    s.OnlyDecodes t := by
  have hpush := sspTake_onlyDecodes s d indet
  by_cases hdcnt : s.dcnt < 2
  · rw [takeSymbol_of_partial hdcnt] at h
    cases h
    exact hpush
  · by_cases hcwcnt : s.cwcnt.toNat + 1 = s.cfg.N
    · rw [takeSymbol_of_codeword hdcnt hcwcnt] at h
      exact hpush.trans (decodeCodeword_onlyDecodes h)
    · rw [takeSymbol_of_byte hdcnt hcwcnt] at h
      cases h
      exact hpush

/-- What a block leaves when it completes: its symbol taken, then the cursor moved on. -/
theorem decodeBlock_ok {done : Done} (h : s.decodeBlock = .ok done) :
    ∃ (d : Digit) (indet : Bool) (u : State) (out : List Byte),
      s.takeSymbol d indet = .ok (u, out) ∧ done.state = u.consumeBlock := by
  unfold State.decodeBlock at h
  split at h
  · cases h
  · split at h
    · cases h
    · next htake =>
      cases h
      exact ⟨_, _, _, _, htake, rfl⟩

/-- Everything the body of `DEC.BLOCK` can do when it completes (R251). -/
theorem exec_decBlock_next (h : exec .decBlock s = .next t) :
    (t.cur = s.cur ∧ t.frameValid = s.frameValid) ∨
    (∃ (d : Digit) (indet : Bool) (u : State) (out : List Byte) (rsp : Word48) (events : List Event),
      s.frameValid = true ∧ s.takeSymbol d indet = .ok (u, out) ∧ t = u.consumeBlock.answer rsp events) := by
  obtain ⟨-, rfl⟩ | ⟨-, done, hbody, rfl⟩ | ⟨-, k, info, -, rfl⟩ := command_next h
  · exact .inl ⟨rfl, rfl⟩
  · split_ifs at hbody with hcnt hdone hready hcur
    · cases hbody
    · cases hbody
      exact .inl ⟨rfl, rfl⟩
    · cases hbody
    · obtain ⟨d, indet, u, out, htake, hstate⟩ := decodeBlock_ok hbody
      have hvalid : s.frameValid = true := Bool.not_eq_false _ ▸ mt .inl hready
      exact .inr ⟨d, indet, u, out, done.rsp, done.events, hvalid, htake, by rw [hstate]⟩
  · exact .inl ⟨rfl, rfl⟩

/-- The cursor after a block of a loaded frame is at 0 when the frame is used up. -/
theorem consumeBlock_cur_of_not_valid (hvalid : s.frameValid = true) (h : s.consumeBlock.frameValid = false) :
    s.consumeBlock.cur = 0 := by
  rw [consumeBlock_frameValid] at h
  rw [consumeBlock_cur]
  split_ifs at h ⊢ with hlast
  · rfl
  · exact absurd (hvalid.symm.trans h) Bool.noConfusion

end

/-- A session command that is refused or faults leaves the cursor and the frame's flag. -/
theorem cur_zero_of_command {s t : State} {body : Except Stop Done} (hs : s.frameValid = false → s.cur = 0)
    (hbody : ∀ done, body = .ok done → done.state.frameValid = false → done.state.cur = 0)
    (h : command s body = .next t) (ht : t.frameValid = false) : t.cur = 0 := by
  obtain ⟨-, rfl⟩ | ⟨-, done, hok, rfl⟩ | ⟨-, k, info, -, rfl⟩ := command_next h
  · exact hs ht
  · exact hbody done hok ht
  · exact hs ht

/-- Between frames the cursor is at 0, and the decode commands keep it so. -/
theorem decode_keeps_cur_zero {i : Instr} {s t : State} (hi : i ∈ [Instr.decStart, .decFrame, .decBlock, .decEos])
    (hs : s.frameValid = false → s.cur = 0) (h : exec i s = .next t) (ht : t.frameValid = false) : t.cur = 0 := by
  simp only [List.mem_cons, List.not_mem_nil, or_false] at hi
  rcases hi with rfl | rfl | rfl | rfl
  case inl =>
    refine cur_zero_of_command hs (fun done hok _ => ?_) h ht
    split_ifs at hok <;> cases hok
    rfl
  case inr.inl =>
    refine cur_zero_of_command hs (fun done hok hvalid => ?_) h ht
    split_ifs at hok <;> cases hok
    cases hvalid
  case inr.inr.inl =>
    obtain ⟨hcur, hvalid⟩ | ⟨d, indet, u, out, rsp, events, hvalid, htake, rfl⟩ := exec_decBlock_next h
    · rw [hcur]
      exact hs (hvalid ▸ ht)
    · exact consumeBlock_cur_of_not_valid ((takeSymbol_onlyDecodes htake).frameValid_eq.trans hvalid) ht
  case inr.inr.inr =>
    refine cur_zero_of_command hs (fun done hok => ?_) h ht
    split_ifs at hok <;> cases hok
    exact hs

/-- Settles O55, command by command; only a block moves the cursor, and the last one of a frame moves it to 0. -/
theorem decodeSessionCommands : Obligations.DecodeSessionCommands :=
  ⟨encodesBare_decStart, encodesBare_decFrame, encodesBare_decEos,
    fun _ hfault => ⟨exec_decStart_of_no_grid hfault, exec_decStart_of_no_length hfault,
      exec_decStart_of_length hfault, exec_decFrame_of_no_grid hfault, exec_decFrame_of_valid hfault,
      exec_decFrame_of_not_valid hfault, exec_decEos_of_lt hfault, exec_decEos_of_le hfault⟩,
    fun _ _ _ => decode_keeps_cur_zero⟩

end Sys2Proof.Machine
end

section
/-!
What a decoder sees of the frames of a session: a frame loaded unchanged shows the digits as blocks of one colour
(spec/45_datapath.md R246, R254), and a block of one corner colour resolves to it (spec/42_block_classifier.md R146).
-/

namespace Sys2Proof.Machine

/-! ### Blocks of one colour (R146) -/

theorem snapChannel_of_extreme {v : Byte} (h : v = 0 ∨ v = 255) : snapChannel v = v := by
  rcases h with rfl | rfl <;> rfl

theorem snap_of_isCorner {c : Color} (h : c.IsCorner) : snap c = c := by
  obtain ⟨hr, hg, hb⟩ := h
  rw [snap, snapChannel_of_extreme hr, snapChannel_of_extreme hg, snapChannel_of_extreme hb]

theorem isCorner_colorRom : ∀ d : Digit, (colorRom d).IsCorner := by
  unfold Color.IsCorner
  decide

/-- Strategy 0 keeps a pixel of the block, which has the block's colour. -/
theorem classifyNearest_of_uniform {s : State} {i : Nat} {c : Color} (hi : i < s.cnt) (hc : c.IsCorner)
    (h : ∀ q ∈ s.blockPixels i, s.pixel q.1 q.2 = c) : s.classifyNearest i = .resolved c := by
  obtain ⟨n, hn, -, -, hclass⟩ := nearestCornerKeepsTheFirstMinimum s i hi
  have hpixel := h _ (blockPixels_eq_map_range s i ▸ List.mem_map_of_mem (List.mem_range.mpr hn))
  exact hclass.trans (congrArg ClassResult.resolved ((congrArg snap hpixel).trans (snap_of_isCorner hc)))

/-- The average of equal extremes is the extreme, which lies outside a dead zone that keeps away from it (R135). -/
theorem levelByte_threshold_of_extreme {p : Params} (hlo : 1 ≤ p.tLo) (hle : p.tLo ≤ p.tHi) (hhi : p.tHi ≤ 254)
    {n : Nat} (hn : 0 < n) {v : Byte} (hv : v = 0 ∨ v = 255) :
    threshold p (n * v.toNat) n ≠ .dead ∧ levelByte (threshold p (n * v.toNat) n) = v := by
  rcases hv with rfl | rfl
  · have hlow : n * (0 : Byte).toNat < p.tLo * n := Nat.mul_pos hlo hn
    rw [threshold, if_pos hlow]
    exact ⟨nofun, rfl⟩
  · have hhigh : p.tHi * n < n * (255 : Byte).toNat := by
      rw [Nat.mul_comm n]
      exact Nat.mul_lt_mul_of_pos_right (Nat.lt_succ_of_le hhi) hn
    have hnotLow : ¬ n * (255 : Byte).toNat < p.tLo * n :=
      ((Nat.mul_le_mul_right n hle).trans hhigh.le).not_gt
    rw [threshold, if_neg hnotLow, if_pos hhigh]
    exact ⟨nofun, rfl⟩

/-- Strategy 1 averages nine pixels of the block. -/
theorem classifyThreshold_of_uniform {s : State} {i : Nat} {c : Color} (hi : i < s.cnt) (hc : c.IsCorner)
    (h : ∀ q ∈ s.blockPixels i, s.pixel q.1 q.2 = c) (hB : 3 ≤ s.geomB.toNat) (hlo : 1 ≤ s.cfg.tLo)
    (hle : s.cfg.tLo ≤ s.cfg.tHi) (hhi : s.cfg.tHi ≤ 254) : s.classifyThreshold i = .resolved c := by
  have hsum : ∀ channel : Color → Byte,
      ((s.neighbourhood i).map fun q => (channel (s.pixel q.1 q.2)).toNat).sum =
        (s.neighbourhood i).length * (channel c).toNat := by
    intro channel
    rw [List.map_congr_left (g := fun _ => (channel c).toNat) fun q hq => by
      rw [h q (mem_blockPixels_of_mem_neighbourhood hB hq)]]
    simp
  have hpos : 0 < (s.neighbourhood i).length := List.length_pos_of_mem (centre_mem_neighbourhood hi)
  have hlevel := fun {v : Byte} => levelByte_threshold_of_extreme hlo hle hhi hpos (v := v)
  obtain ⟨hr, hg, hb⟩ := hc
  simp only [classifyThreshold_eq, hsum, combineLevels, (hlevel hr).1, (hlevel hg).1, (hlevel hb).1, or_self, if_false,
    (hlevel hr).2, (hlevel hg).2, (hlevel hb).2]

/-- The strategy selected resolves every undistorted block: strategy 1 only with its preconditions (R146). -/
def State.ResolvesUniform (s : State) : Prop :=
  s.clsCtrl = .nearestCorner ∨ (3 ≤ s.geomB.toNat ∧ 1 ≤ s.cfg.tLo ∧ s.cfg.tHi ≤ 254)

theorem classify_of_uniform {s : State} {i : Nat} {c : Color} (hs : s.ResolvesUniform) (hwf : s.cfg.WellFormed)
    (hi : i < s.cnt) (hc : c.IsCorner) (h : ∀ q ∈ s.blockPixels i, s.pixel q.1 q.2 = c) :
    s.classify i = .resolved c := by
  obtain ⟨-, -, -, hle, -⟩ := hwf
  unfold State.classify
  cases hstrategy : s.clsCtrl with
  | nearestCorner => exact classifyNearest_of_uniform hi hc h
  | thresholded =>
    obtain hnearest | ⟨hB, hlo, hhi⟩ := hs
    · exact absurd (hstrategy.symm.trans hnearest) Strategy.noConfusion
    · exact classifyThreshold_of_uniform hi hc h hB hlo hle hhi

/-! ### The images of a session, frame by frame -/

section

variable (s : State)

/-- The images of the frames of a session. -/
def State.sessionImages (ds : List Digit) : List (List Byte) :=
  (List.range ((ds.length + (s.cnt - 1)) / s.cnt)).map (s.sessionImage ds)

theorem sessionFrames_eq_map_sessionImages (ds : List Digit) :
    s.sessionFrames ds = (s.sessionImages ds).map .emitFrame := by
  rw [sessionFrames_eq, State.sessionImages, List.map_map]
  rfl

theorem length_sessionImage (ds : List Digit) (f : Nat) : (s.sessionImage ds f).length = s.frameBytes := by
  rw [State.sessionImage, List.length_map, List.length_range]

end

/-- The images depend on the geometry and the digits alone. -/
theorem sessionImages_congr {s t : State} (hW : t.geomW = s.geomW) (hH : t.geomH = s.geomH) (hB : t.geomB = s.geomB) :
    t.sessionImages = s.sessionImages := by
  have hcols : t.cols = s.cols := by rw [State.cols, State.cols, hW, hB]
  have hrows : t.rows = s.rows := by rw [State.rows, State.rows, hH, hB]
  have hcnt : t.cnt = s.cnt := by rw [State.cnt, State.cnt, hcols, hrows]
  have hbytes : t.frameBytes = s.frameBytes := by rw [State.frameBytes, State.frameBytes, hW, hH]
  have hbyte : t.sessionByte = s.sessionByte := by
    funext ds f a
    simp only [State.sessionByte, hW, hB, hcols, hrows, hcnt]
  have himage : t.sessionImage = s.sessionImage := by
    funext ds f
    rw [State.sessionImage, State.sessionImage, hbytes, hbyte]
  funext ds
  rw [State.sessionImages, State.sessionImages, hcnt, himage]

section

variable {s : State} {ds : List Digit}

/-- After the first frame the session goes on as one with the digits that are left. -/
theorem sessionImage_succ (f : Nat) : s.sessionImage ds (f + 1) = s.sessionImage (ds.drop s.cnt) f := by
  refine List.map_congr_left fun a _ => ?_
  rw [sessionByte_eq, sessionByte_eq]
  congr 2
  funext j
  rw [List.getElem?_drop, Nat.succ_mul]
  congr 1
  omega

theorem sessionImages_of_ne_nil (hcnt : 0 < s.cnt) (h : ds ≠ []) :
    s.sessionImages ds = s.sessionImage ds 0 :: s.sessionImages (ds.drop s.cnt) := by
  rw [State.sessionImages, ceil_div_eq_succ hcnt (List.length_pos_of_ne_nil h), List.range_succ_eq_map, List.map_cons,
    List.map_map, State.sessionImages, List.length_drop]
  congr 2
  funext f
  exact sessionImage_succ f

theorem sessionImages_nil (hcnt : 0 < s.cnt) : s.sessionImages [] = [] := by
  rw [State.sessionImages, List.length_nil, Nat.zero_add, Nat.div_eq_of_lt (Nat.sub_one_lt hcnt.ne')]
  rfl

end

/-! ### A loaded frame (R254) -/

/-- The state after the host has loaded a raster (R312). -/
def State.loaded (s : State) (raster : List Byte) : State :=
  { s with frame := Memory.writeFrame s.frame raster }

theorem hostLoad_of_length {s : State} {raster : List Byte} (h : raster.length = s.frameBytes) :
    hostLoad raster s = .next (s.loaded raster) := if_pos h

theorem readByte_loaded (s : State) (raster : List Byte) {a : Nat} (ha : a < raster.length) :
    (s.loaded raster).readByte a = raster[a] := by
  rw [State.loaded, readByte_eq, lookup_writeFrame, if_pos ha, List.getElem?_eq_getElem ha, Option.getD_some]

/-- The addressable range reads as `t`'s image of the first frame of the digits. -/
def State.ShowsImage (t : State) (ds : List Digit) : Prop := ∀ a < t.frameBytes, t.readByte a = t.sessionByte ds 0 a

theorem showsImage_loaded (s : State) (ds : List Digit) : (s.loaded (s.sessionImage ds 0)).ShowsImage ds := by
  intro a ha
  rw [readByte_loaded s _ (by rwa [length_sessionImage])]
  simp only [State.sessionImage, List.getElem_map, List.getElem_range]
  rfl

section

variable {t : State} {ds : List Digit}

/-- A byte of a pixel of a block that has a digit. -/
theorem readByte_pixel_of_showsImage (h : t.ShowsImage ds) {j x y : Nat} {d : Digit} (hj : j < t.cnt)
    (hd : ds[j]? = some d) (hq : (x, y) ∈ t.blockPixels j) {k : Nat} (hk : k < 3) :
    t.readByte (t.pixelAddress x y + k) = (colorRom d).channel k := by
  obtain ⟨hx, hy⟩ := lt_width_and_lt_height_of_mem_blockPixels hj hq
  have hlt : y * t.geomW.toNat + x < t.geomW.toNat * t.geomH.toNat :=
    calc _ < (y + 1) * t.geomW.toNat := by rw [Nat.succ_mul]; omega
      _ ≤ t.geomW.toNat * t.geomH.toNat := by rw [Nat.mul_comm]; exact Nat.mul_le_mul_left _ hy
  have hrange : t.pixelAddress x y + k < t.frameBytes := by
    rw [State.pixelAddress, State.frameBytes, Nat.mul_assoc]
    omega
  have hpixel : (t.pixelAddress x y + k) / 3 = y * t.geomW.toNat + x := by
    rw [State.pixelAddress]
    omega
  have hchannel : (t.pixelAddress x y + k) % 3 = k := by
    rw [State.pixelAddress]
    omega
  obtain ⟨hcol, hrow⟩ := (mul_add_eq_iff_div_mod (y := y) hx).mp rfl
  have hblock : t.blockAt (t.pixelAddress x y + k) = some j := by
    rwa [blockAt_eq_some_iff hj, hpixel, ← hcol, ← hrow]
  rw [h _ hrange, sessionByte_eq, hblock, hchannel, Option.bind_some, Nat.zero_mul, Nat.zero_add, hd]
  rfl

/-- The blocks of a loaded frame resolve to the colours of its digits. -/
theorem classify_of_showsImage (hs : t.ResolvesUniform) (hwf : t.cfg.WellFormed) (h : t.ShowsImage ds) {j : Nat}
    {d : Digit} (hj : j < t.cnt) (hd : ds[j]? = some d) : t.classify j = .resolved (colorRom d) := by
  refine classify_of_uniform hs hwf hj (isCorner_colorRom d) fun q hq => ?_
  have hbyte := fun {k : Nat} => readByte_pixel_of_showsImage h hj hd (x := q.1) (y := q.2) hq (k := k)
  rw [State.pixel, hbyte (k := 1) (by omega), hbyte (k := 2) (by omega), ← Nat.add_zero (t.pixelAddress q.1 q.2),
    hbyte (k := 0) (by omega)]
  rfl

end

end Sys2Proof.Machine
end

section
/-!
The decode datapath on an undistorted digit stream (spec/45_datapath.md R251): what the packer holds is the part of the
encoded payload taken so far, and every codeword that completes gives its bytes of the payload by the fast path.
-/

namespace Sys2Proof.Machine

/-! ### The state of the packer inside a stream -/

/-- The number that digits spell in base 8 (R221). -/
def digitsValue (ds : List Digit) : Nat := ds.foldl (fun v d => 8 * v + d.toNat) 0

theorem digitsValue_append_singleton (ds : List Digit) (d : Digit) :
    digitsValue (ds ++ [d]) = 8 * digitsValue ds + d.toNat := List.foldl_append

theorem digitsValue_lt (ds : List Digit) : digitsValue ds < 8 ^ ds.length := by
  induction ds using List.reverseRecOn with
  | nil => exact Nat.one_pos
  | append_singleton ds d ih =>
    have hd := d.isLt
    rw [digitsValue_append_singleton, List.length_append, List.length_singleton, Nat.pow_succ]
    omega

/-- Of the payload `out` that is still to be output, the block has taken the bytes `word` of the codeword in progress
and the digits `part` of the next byte; the bytes `rest` are not complete. -/
structure Midway (t : State) (word : List Byte) (part : List Digit) (rest out : List Byte) : Prop where
  cwbuf_length : t.cwbuf.length = t.cfg.N
  cwbuf_take : t.cwbuf.take word.length = word
  cwcnt : t.cwcnt.toNat = word.length
  short : word.length < t.cfg.N
  dacc : t.dacc.toNat = digitsValue part
  dcnt : t.dcnt.toNat = part.length
  part_le : part.length ≤ 2
  cflag : t.cflag = false
  code : word ++ rest = eccEncode t.cfg out
  left : t.tgtLen.toNat = t.outCnt.toNat + out.length

/-- The block is still to take the digits `rem`, and will output `out`. -/
def Awaits (t : State) (rem : List Digit) (out : List Byte) : Prop :=
  ∃ word part rest, Midway t word part rest out ∧ part ++ rem = digitStream rest

section

variable {t : State} {word rest out : List Byte} {part rem : List Digit}

theorem eccEncode_length_of_ne_nil (hK : 0 < t.cfg.K) (hne : out ≠ []) : t.cfg.N ≤ (eccEncode t.cfg out).length := by
  rw [eccEncode_of_ne_nil hK hne, List.length_append, length_rsEncode, length_firstChunk, Params.N]
  omega

/-- The output is complete exactly when no digit is awaited. -/
theorem Awaits.nil_iff (hK : 0 < t.cfg.K) (h : Awaits t rem out) : rem = [] ↔ out = [] := by
  obtain ⟨word, part, rest, hmid, hdigits⟩ := h
  have hlen := congrArg List.length hdigits
  have hcode := congrArg List.length hmid.code
  rw [List.length_append, length_digitStream] at hlen
  rw [List.length_append] at hcode
  constructor
  · rintro rfl
    by_contra hne
    have hword := hmid.short
    have hpart := hmid.part_le
    have hN := eccEncode_length_of_ne_nil hK hne
    rw [List.length_nil] at hlen
    omega
  · rintro rfl
    rw [eccEncode_nil, List.length_nil] at hcode
    exact List.eq_nil_of_length_eq_zero (by omega)

theorem Awaits.done_iff (h : Awaits t rem out) : t.done = true ↔ out = [] := by
  obtain ⟨word, part, rest, hmid, -⟩ := h
  have hleft := hmid.left
  rw [Machine.done_iff, ← List.length_eq_zero_iff]
  omega

theorem Awaits.cwcnt_lt (h : Awaits t rem out) : t.cwcnt.toNat < t.cfg.N := by
  obtain ⟨word, part, rest, hmid, -⟩ := h
  rw [hmid.cwcnt]
  exact hmid.short

/-- The cursor's advance and the response do not touch the packer. -/
theorem Awaits.consumeBlock (h : Awaits t rem out) (rsp : Word48) (events : List Event) :
    Awaits (t.consumeBlock.answer rsp events) rem out := by
  obtain ⟨word, part, rest, hmid, hdigits⟩ := h
  exact ⟨word, part, rest, { hmid with }, hdigits⟩

/-! ### One digit (R221) -/

theorem sspTake_state_partial (hdcnt : t.dcnt < 2) (d : Digit) :
    (t.sspTake d false).1 =
      { t with dacc := (accumulate t.dacc d).setWidth 6, dcnt := t.dcnt + 1 } := by
  rw [sspTake_partial hdcnt, Bool.or_false]
  rfl

theorem sspTake_state_byte (hdcnt : ¬ t.dcnt < 2) (d : Digit) :
    (t.sspTake d false).1 =
      { t with
        cwbuf := t.cwbuf.set t.cwcnt.toNat ((accumulate t.dacc d).setWidth 8), cwcnt := t.cwcnt + 1, dacc := 0,
        dcnt := 0 } := by
  rw [sspTake_byte hdcnt, Bool.or_false]
  rfl

/-- A digit inside a byte. -/
theorem Midway.takePartial (h : Midway t word part rest out) (hpart : part.length < 2) (d : Digit) :
    ∃ u, t.takeSymbol d false = .ok (u, []) ∧ Midway u word (part ++ [d]) rest out := by
  have hd := d.isLt
  have hvalue : digitsValue part < 8 :=
    (digitsValue_lt part).trans_le (Nat.pow_le_pow_right (j := 1) (by omega) (Nat.le_of_lt_succ hpart))
  have hdcnt : t.dcnt < 2 := BitVec.lt_def.mpr (h.dcnt ▸ hpart)
  refine ⟨_, takeSymbol_of_partial hdcnt d false, ?_⟩
  rw [sspTake_state_partial hdcnt]
  have hlen : (part ++ [d]).length = part.length + 1 := List.length_append
  refine ⟨h.cwbuf_length, h.cwbuf_take, h.cwcnt, h.short, ?_, ?_, by omega, h.cflag, h.code, h.left⟩
  · rw [BitVec.toNat_setWidth, toNat_accumulate, h.dacc, digitsValue_append_singleton]
    exact Nat.mod_eq_of_lt (by omega)
  · rw [hlen, ← h.dcnt]
    exact BitVec.toNat_add_of_lt (by rw [h.dcnt]; show _ + 1 < 4; omega)

/-- The third digit completes the byte that the three digits came from. -/
theorem accumulate_digitsOf {b : Byte} {dacc : BitVec 6}
    (h : dacc.toNat = digitsValue [(digitsOf b).1, (digitsOf b).2.1]) :
    (accumulate dacc (digitsOf b).2.2).setWidth 8 = b := by
  have hb := b.isLt
  apply BitVec.eq_of_toNat_eq
  rw [BitVec.toNat_setWidth, toNat_accumulate, h, toNat_digitsOf_snd_snd]
  simp only [digitsValue, List.foldl_cons, List.foldl_nil, toNat_digitsOf_fst, toNat_digitsOf_snd_fst]
  omega

end

/-! ### A byte and a codeword (R221, R251) -/

section

variable {t : State} {word rest out : List Byte} {b : Byte}

/-- The packer after the last digit of a byte. -/
def State.packed (t : State) (b : Byte) : State :=
  { t with cwbuf := t.cwbuf.set t.cwcnt.toNat b, cwcnt := t.cwcnt + 1, dacc := 0, dcnt := 0 }

/-- The fast path: a codeword without an indeterminate block is passed on as it is (R187). -/
theorem decodeCodeword_of_unflagged {s : State} (h : s.cflag = false) :
    let out := (s.cwbuf.take s.cfg.K).take (s.tgtLen.toNat - s.outCnt.toNat)
    s.decodeCodeword = .ok ({ s with
      rsdBuf := s.cwbuf, rsdCnt := BitVec.ofNat 8 s.cfg.N, rsdOk := true, cwcnt := 0, cflag := false,
      cwidx := s.cwidx + 1, outCnt := s.outCnt + BitVec.ofNat 48 out.length }, out) := by
  rw [State.decodeCodeword, h, rsdCorrect_false]
  rfl

namespace Midway

variable (h : Midway t word [(digitsOf b).1, (digitsOf b).2.1] (b :: rest) out)
include h

theorem not_dcnt_lt : ¬ t.dcnt < 2 := fun hlt => (BitVec.lt_def.mp hlt).ne h.dcnt

theorem sspTake_last : (t.sspTake (digitsOf b).2.2 false).1 = t.packed b := by
  rw [sspTake_state_byte h.not_dcnt_lt, accumulate_digitsOf h.dacc]
  rfl

theorem packed_take : (t.packed b).cwbuf.take (word ++ [b]).length = word ++ [b] := by
  have hlt : word.length < t.cwbuf.length := h.cwbuf_length ▸ h.short
  rw [State.packed, h.cwcnt, List.length_append, List.length_singleton, take_set_succ hlt, h.cwbuf_take]

theorem packed_cwbuf_length : (t.packed b).cwbuf.length = t.cfg.N := List.length_set.trans h.cwbuf_length

/-- The last digit of a byte that does not complete the codeword. -/
theorem takeByte_of_not_last (hwf : t.cfg.WellFormed) (hlast : word.length + 1 ≠ t.cfg.N) :
    ∃ u, t.takeSymbol (digitsOf b).2.2 false = .ok (u, []) ∧ Midway u (word ++ [b]) [] rest out := by
  obtain ⟨-, -, hKP, -⟩ := hwf
  have hN : t.cfg.N ≤ 255 := t.cfg.N_eq ▸ hKP
  have hshort := h.short
  have hlen : (word ++ [b]).length = word.length + 1 := List.length_append
  refine ⟨_, takeSymbol_of_byte h.not_dcnt_lt (by rwa [h.cwcnt]) _ false, ?_⟩
  rw [h.sspTake_last]
  refine ⟨h.packed_cwbuf_length, h.packed_take, ?_, ?_, rfl, rfl, Nat.zero_le 2, h.cflag, ?_, h.left⟩
  · rw [hlen, ← h.cwcnt]
    exact toNat_count_add_one (by rw [h.cwcnt]; omega)
  · rw [hlen]
    exact Nat.lt_of_le_of_ne hshort hlast
  · rw [List.append_assoc]
    exact h.code

/-- A completed codeword is that of the first chunk of the payload, and the rest is the rest of the payload's code. -/
theorem word_eq_rsEncode (hK : 0 < t.cfg.K) (hlast : word.length + 1 = t.cfg.N) :
    word ++ [b] = rsEncode t.cfg.P (firstChunk t.cfg.K out) ∧ rest = eccEncode t.cfg (out.drop t.cfg.K) := by
  have hcode : (word ++ [b]) ++ rest = eccEncode t.cfg out := by
    rw [List.append_assoc]
    exact h.code
  have hne : out ≠ [] := by
    rintro rfl
    rw [eccEncode_nil, List.append_eq_nil_iff] at hcode
    exact List.concat_ne_nil b word hcode.1
  rw [eccEncode_of_ne_nil hK hne] at hcode
  refine List.append_inj hcode ?_
  rw [List.length_append, List.length_singleton, hlast, length_rsEncode, length_firstChunk, t.cfg.N_eq]

/-- The last digit of a codeword: its bytes of the payload are output. -/
theorem takeByte_of_last (hwf : t.cfg.WellFormed) (hlast : word.length + 1 = t.cfg.N) :
    ∃ u, t.takeSymbol (digitsOf b).2.2 false = .ok (u, out.take t.cfg.K) ∧
      Midway u [] [] rest (out.drop t.cfg.K) := by
  obtain ⟨hK, -⟩ := hwf
  obtain ⟨hword, hrest⟩ := h.word_eq_rsEncode hK hlast
  have hcwbuf : (t.packed b).cwbuf = rsEncode t.cfg.P (firstChunk t.cfg.K out) := by
    have htake := h.packed_take
    rwa [List.take_of_length_le (by rw [h.packed_cwbuf_length, ← hlast, List.length_append]; exact le_rfl),
      hword] at htake
  have hleft := h.left
  have hout : ((t.packed b).cwbuf.take (t.packed b).cfg.K).take
      ((t.packed b).tgtLen.toNat - (t.packed b).outCnt.toNat) = out.take t.cfg.K := by
    have hmessage := take_rsEncode t.cfg.P (firstChunk t.cfg.K out)
    rw [length_firstChunk] at hmessage
    change ((t.packed b).cwbuf.take t.cfg.K).take (t.tgtLen.toNat - t.outCnt.toNat) = _
    rw [hcwbuf, hmessage, hleft, Nat.add_sub_cancel_left, take_length_firstChunk]
  have hcount : (t.outCnt + BitVec.ofNat 48 (out.take t.cfg.K).length).toNat =
      t.outCnt.toNat + (out.take t.cfg.K).length := by
    have hbound := t.tgtLen.isLt
    have hle : (out.take t.cfg.K).length ≤ out.length := List.length_take_le' ..
    have hsmall : (BitVec.ofNat 48 (out.take t.cfg.K).length).toNat = (out.take t.cfg.K).length :=
      Nat.mod_eq_of_lt (by omega)
    rw [BitVec.toNat_add_of_lt (by omega), hsmall]
  have htake := takeSymbol_of_codeword h.not_dcnt_lt (by rw [h.cwcnt, hlast]) (digitsOf b).2.2 false
  rw [h.sspTake_last, decodeCodeword_of_unflagged (s := t.packed b) h.cflag, hout] at htake
  refine ⟨_, htake, ⟨h.packed_cwbuf_length, rfl, rfl, Nat.zero_lt_of_lt h.short, rfl, rfl, Nat.zero_le 2, rfl,
    hrest, ?_⟩⟩
  calc t.tgtLen.toNat = t.outCnt.toNat + (out.take t.cfg.K).length + (out.drop t.cfg.K).length := by
        rw [hleft, List.length_take, List.length_drop]
        omega
    _ = _ := congrArg (· + (out.drop t.cfg.K).length) hcount.symm

end Midway

end

/-- A DIGIT OF THE STREAM is taken, and what is output is the next part of the payload. -/
theorem Awaits.takeSymbol {t : State} {d : Digit} {rem : List Digit} {out : List Byte} (hwf : t.cfg.WellFormed)
    (h : Awaits t (d :: rem) out) :
    ∃ u now later, t.takeSymbol d false = .ok (u, now) ∧ Awaits u rem later ∧ out = now ++ later := by
  obtain ⟨word, part, rest, hmid, hdigits⟩ := h
  by_cases hpart : part.length < 2
  · obtain ⟨u, htake, hnext⟩ := hmid.takePartial hpart d
    exact ⟨u, [], out, htake, ⟨word, part ++ [d], rest, hnext, by rwa [List.append_assoc]⟩, rfl⟩
  · obtain ⟨x, y, rfl⟩ := List.length_eq_two.mp (Nat.le_antisymm hmid.part_le (Nat.le_of_not_lt hpart))
    cases rest with
    | nil => cases hdigits
    | cons b rest =>
      rw [digitStream_cons] at hdigits
      obtain ⟨rfl, rfl, rfl, rfl⟩ : x = _ ∧ y = _ ∧ d = _ ∧ rem = _ := by simpa using hdigits
      by_cases hlast : word.length + 1 = t.cfg.N
      · obtain ⟨u, htake, hnext⟩ := hmid.takeByte_of_last hwf hlast
        exact ⟨u, _, _, htake, ⟨[], [], rest, hnext, rfl⟩, (List.take_append_drop _ out).symm⟩
      · obtain ⟨u, htake, hnext⟩ := hmid.takeByte_of_not_last hwf hlast
        exact ⟨u, [], out, htake, ⟨word ++ [b], [], rest, hnext, rfl⟩, rfl⟩

end Sys2Proof.Machine
end

section
/-!
The round trip (spec/45_datapath.md R254, R255): the canonical decode of the frames of a session takes its digits one
block at a time and outputs the payload.
-/

namespace Sys2Proof.Machine

/-! ### The response of `DEC.BLOCK` (R251) -/

section

variable (n : Nat) (indet done wrap : Bool)

theorem blockField_wrap : (blockField n indet done wrap).getLsbD 0 = wrap := by
  rw [blockField, getLsbD_field _ (by omega), getLsbD_append_of_lt _ _ (by omega), getLsbD_append_of_lt _ _ (by omega),
    getLsbD_append_of_lt _ _ (by omega), getLsbD_append_of_lt _ _ (by omega), bit]
  exact BitVec.getLsbD_ofBool wrap 0

theorem blockField_done : (blockField n indet done wrap).getLsbD 1 = done := by
  rw [blockField, getLsbD_field _ (by omega), getLsbD_append_of_lt _ _ (by omega), getLsbD_append_of_lt _ _ (by omega),
    getLsbD_append_of_lt _ _ (by omega)]
  exact getLsbD_bit_append done _ rfl

theorem blockField_indet : (blockField n indet done wrap).getLsbD 2 = indet := by
  rw [blockField, getLsbD_field _ (by omega), getLsbD_append_of_lt _ _ (by omega), getLsbD_append_of_lt _ _ (by omega)]
  exact getLsbD_bit_append indet _ rfl

end

/-! ### What decoding leaves alone -/

/-- `t` is `s` with other values in the decode datapath, the cursor, the frame, its flag and the response at most. -/
def State.OnlyReceives (s t : State) : Prop :=
  t = { s with
    dacc := t.dacc, dcnt := t.dcnt, cwbuf := t.cwbuf, cwcnt := t.cwcnt, cflag := t.cflag, cwidx := t.cwidx,
    rsdBuf := t.rsdBuf, rsdCnt := t.rsdCnt, rsdOk := t.rsdOk, outCnt := t.outCnt, cur := t.cur, frame := t.frame,
    frameValid := t.frameValid, response := t.response }

theorem State.OnlyDecodes.cur_eq {s t : State} (h : s.OnlyDecodes t) : t.cur = s.cur := by rw [h]

theorem State.OnlyDecodes.frame_eq {s t : State} (h : s.OnlyDecodes t) : t.frame = s.frame := by rw [h]

theorem State.OnlyDecodes.onlyReceives {s t : State} (h : s.OnlyDecodes t) : s.OnlyReceives t := by
  rw [State.OnlyDecodes] at h
  rw [State.OnlyReceives, h]

namespace State.OnlyReceives

variable {s t u : State}

theorem refl (s : State) : s.OnlyReceives s := rfl

theorem trans (hst : s.OnlyReceives t) (htu : t.OnlyReceives u) : s.OnlyReceives u := by
  rw [State.OnlyReceives] at hst htu ⊢
  rw [htu, hst]

variable (h : s.OnlyReceives t)
include h

theorem cfg_eq : t.cfg = s.cfg := by rw [h]

theorem fault_eq : t.fault = s.fault := by rw [h]

theorem cnt_eq : t.cnt = s.cnt := by
  rw [h]
  rfl

theorem frameBytes_eq : t.frameBytes = s.frameBytes := by
  rw [h]
  rfl

theorem sessionImage_eq : t.sessionImage = s.sessionImage := by
  rw [h]
  rfl

theorem resolvesUniform (hs : s.ResolvesUniform) : t.ResolvesUniform := by
  rw [h]
  exact hs

theorem classify_eq (hframe : t.frame = s.frame) : t.classify = s.classify := by
  rw [h, hframe]
  rfl

end State.OnlyReceives

/-! ### One block (R251) -/

/-- What the datapath did with a symbol stands after the cursor has moved on. -/
theorem consumeBlock_onlyReceives (t : State) (rsp : Word48) (events : List Event) :
    t.OnlyReceives (t.consumeBlock.answer rsp events) := rfl

/-- A block whose colour resolves is a symbol for the packer. -/
theorem exec_decBlock_of_resolved {s t : State} {d : Digit} {out : List Byte} (hfault : s.fault = none)
    (hdone : s.done = false) (hvalid : s.frameValid = true) (hfull : s.cwcnt.toNat ≠ s.cfg.N)
    (hcur : s.cur.toNat < s.cnt) (hclass : s.classify s.cur.toNat = .resolved (colorRom d))
    (htake : s.takeSymbol d false = .ok (t, out)) :
    exec .decBlock s = .next (t.consumeBlock.answer (blockField out.length false t.done t.lastBlock)
      (out.map .outByte)) := by
  have hready : ¬ (s.frameValid = false ∨ s.cwcnt.toNat = s.cfg.N) := by
    rw [hvalid]
    exact fun h => h.elim nofun hfull
  change execDecBlock s = _
  rw [execDecBlock, command_of_running hfault, if_neg (Nat.ne_zero_of_lt hcur), hdone, if_neg Bool.false_ne_true,
    if_neg hready, if_neg hcur.not_ge, State.decodeBlock, hclass, digitOfResult, digitOf_colorRom]
  dsimp only
  rw [htake]
  rfl

/-- The block is running inside a frame whose blocks show the digits `ds`, and awaits those from the cursor on. -/
structure Reading (t : State) (ds : List Digit) (out : List Byte) : Prop where
  fault : t.fault = none
  wf : t.cfg.WellFormed
  valid : t.frameValid = true
  cur_lt : t.cur.toNat < t.cnt
  shows : ∀ j d, j < t.cnt → ds[j]? = some d → t.classify j = .resolved (colorRom d)
  awaits : Awaits t (ds.drop t.cur.toNat) out

/-- A block takes its digit, and what is output is the next part of the payload. -/
theorem Reading.exec_decBlock {t : State} {ds : List Digit} {out : List Byte} (h : Reading t ds out)
    (hmore : ds.drop t.cur.toNat ≠ []) :
    ∃ (u : State) (now later : List Byte),
      exec .decBlock t = .next (u.consumeBlock.answer (blockField now.length false u.done u.lastBlock)
        (now.map .outByte)) ∧
      t.OnlyDecodes u ∧ Awaits u (ds.drop (t.cur.toNat + 1)) later ∧ out = now ++ later := by
  obtain ⟨d, rem, hrem⟩ := List.exists_cons_of_ne_nil hmore
  have hd : ds[t.cur.toNat]? = some d := by
    rw [← Nat.add_zero t.cur.toNat, ← List.getElem?_drop, hrem]
    rfl
  have hnext : ds.drop (t.cur.toNat + 1) = rem := by
    rw [← List.drop_drop, hrem]
    rfl
  have hdone : t.done = false := Bool.eq_false_iff.mpr fun hdone =>
    hmore ((h.awaits.nil_iff h.wf.1).mpr (h.awaits.done_iff.mp hdone))
  have hawaits := h.awaits
  rw [hrem] at hawaits
  obtain ⟨u, now, later, htake, hlater, hout⟩ := hawaits.takeSymbol h.wf
  exact ⟨u, now, later, exec_decBlock_of_resolved h.fault hdone h.valid h.awaits.cwcnt_lt.ne h.cur_lt
    (h.shows _ d h.cur_lt hd) htake, takeSymbol_onlyDecodes htake, hnext ▸ hlater, hout⟩

/-! ### The blocks of a frame (R254) -/

theorem session_singleton {i : Instr} {s t : State} {rsp : Word48} {events : List Event}
    (h : exec i s = .next (t.answer rsp events)) : session [i] s = some (t.answer rsp events, events) := by
  rw [session_cons_of_some h rfl, List.append_nil]

section

variable {s t : State} {k : Nat} {done wrap : Bool} {events : List Event}
  (h : exec .decBlock s = .next (t.answer (blockField k false done wrap) events)) (n : Nat)
include h

theorem decodeBlocks_of_stop (hstop : (wrap || done) = true) :
    decodeBlocks (n + 1) s = some (t.answer (blockField k false done wrap) events, events) := by
  rw [decodeBlocks, session_singleton h]
  simp only [answer_response, blockField_indet, blockField_wrap, blockField_done, hstop, Bool.false_eq_true, if_false,
    if_true]

theorem decodeBlocks_of_go (hgo : (wrap || done) = false) {u : State} {more : List Event}
    (hrest : decodeBlocks n (t.answer (blockField k false done wrap) events) = some (u, more)) :
    decodeBlocks (n + 1) s = some (u, events ++ more) := by
  rw [decodeBlocks, session_singleton h]
  simp only [answer_response, blockField_indet, blockField_wrap, blockField_done, hgo, Bool.false_eq_true, if_false,
    hrest]

end

/-- Behind a block that is not the last the next one is read. -/
theorem Reading.next {t u : State} {ds : List Digit} {out later : List Byte} (h : Reading t ds out)
    (hsame : t.OnlyDecodes u) (hawaits : Awaits u (ds.drop (t.cur.toNat + 1)) later) (hlast : u.lastBlock = false)
    (rsp : Word48) (events : List Event) :
    (u.consumeBlock.answer rsp events).cur.toNat = t.cur.toNat + 1 ∧
      Reading (u.consumeBlock.answer rsp events) ds later := by
  have hreceives := hsame.onlyReceives.trans (consumeBlock_onlyReceives u rsp events)
  have hnotEnd : t.cur.toNat + 1 ≠ t.cnt := by
    rw [← hsame.cur_eq, ← hsame.onlyReceives.cnt_eq]
    exact of_decide_eq_false hlast
  have hinside : t.cur.toNat + 1 < t.cnt := Nat.lt_of_le_of_ne h.cur_lt hnotEnd
  have hcur : (u.consumeBlock.answer rsp events).cur.toNat = t.cur.toNat + 1 := by
    rw [answer_cur, consumeBlock_cur, hlast, if_neg Bool.false_ne_true, hsame.cur_eq]
    exact BitVec.toNat_add_of_lt (hinside.trans (cnt_lt t))
  refine ⟨hcur, hreceives.fault_eq.trans h.fault, hreceives.cfg_eq ▸ h.wf, ?_, ?_, ?_, ?_⟩
  · rw [answer_frameValid, consumeBlock_frameValid, hlast, if_neg Bool.false_ne_true, hsame.frameValid_eq, h.valid]
  · rwa [hcur, hreceives.cnt_eq]
  · rw [hreceives.cnt_eq, hreceives.classify_eq hsame.frame_eq]
    exact h.shows
  · rw [hcur]
    exact hawaits.consumeBlock rsp events

/-- The rest of a frame, up to its end or the end of the payload. -/
theorem Reading.decodeBlocks {n : Nat} {t : State} {ds : List Digit} {out : List Byte} (h : Reading t ds out)
    (hmore : ds.drop t.cur.toNat ≠ []) (hn : t.cur.toNat + n = t.cnt) :
    ∃ (v : State) (now later : List Byte), Machine.decodeBlocks n t = some (v, now.map .outByte) ∧
      out = now ++ later ∧ Awaits v (ds.drop t.cnt) later ∧ t.OnlyReceives v ∧
      (v.done = false → v.cur = 0 ∧ v.frameValid = false) := by
  induction n generalizing t out with
  | zero => exact absurd h.cur_lt (by omega)
  | succ n ih =>
    obtain ⟨u, now, later, hexec, hsame, hawaits, rfl⟩ := h.exec_decBlock hmore
    have hcur : u.cur = t.cur := hsame.cur_eq
    have hcnt : u.cnt = t.cnt := hsame.onlyReceives.cnt_eq
    have hreceives := fun rsp events => hsame.onlyReceives.trans (consumeBlock_onlyReceives u rsp events)
    have hbehind : ∀ rsp events, Awaits (u.consumeBlock.answer rsp events) (ds.drop (t.cur.toNat + 1)) later :=
      hawaits.consumeBlock
    cases hlast : u.lastBlock with
    | true =>
      have hend : t.cur.toNat + 1 = t.cnt := by
        rw [← hcur, ← hcnt]
        exact (lastBlock_iff u).mp hlast
      refine ⟨_, now, later, decodeBlocks_of_stop hexec n (by rw [hlast, Bool.true_or]), rfl, ?_, hreceives _ _,
        fun _ => ⟨?_, ?_⟩⟩
      · rw [← hend]
        exact hbehind _ _
      · exact if_pos hlast
      · exact if_pos hlast
    | false =>
      cases hdone : u.done with
      | true =>
        have hnil : ds.drop (t.cur.toNat + 1) = [] :=
          (hawaits.nil_iff (hsame.onlyReceives.cfg_eq ▸ h.wf.1)).mpr (hawaits.done_iff.mp hdone)
        have hnone : ds.drop t.cnt = ds.drop (t.cur.toNat + 1) := by
          rw [hnil, List.drop_eq_nil_iff]
          exact (List.drop_eq_nil_iff.mp hnil).trans h.cur_lt
        refine ⟨_, now, later, decodeBlocks_of_stop hexec n (by rw [hdone, Bool.or_true]), rfl, ?_, hreceives _ _,
          fun hnot => absurd (hnot.symm.trans hdone) Bool.noConfusion⟩
        rw [hnone]
        exact hbehind _ _
      | false =>
        obtain ⟨hcurNext, hnext⟩ := h.next hsame hawaits hlast (blockField now.length false u.done u.lastBlock)
          (now.map .outByte)
        have hcntNext := (hreceives (blockField now.length false u.done u.lastBlock) (now.map .outByte)).cnt_eq
        have hmoreNext : ds.drop (t.cur.toNat + 1) ≠ [] := fun hnil =>
          Bool.false_ne_true (hdone.symm.trans
            (hawaits.done_iff.mpr ((hawaits.nil_iff (hsame.onlyReceives.cfg_eq ▸ h.wf.1)).mp hnil)))
        obtain ⟨v, more, rest, hblocks, rfl, hrest, hsameNext, hend⟩ :=
          ih hnext (by rwa [hcurNext]) (by rw [hcurNext, hcntNext]; omega)
        refine ⟨v, now ++ more, rest, ?_, (List.append_assoc ..).symm, hcntNext ▸ hrest,
          (hreceives _ _).trans hsameNext, hend⟩
        rw [List.map_append]
        exact decodeBlocks_of_go hexec n (by rw [hlast, hdone, Bool.or_false]) hblocks

/-! ### The frames of a session (R254, R255) -/

section

variable {s t : State} {ds : List Digit} {out : List Byte}

/-- The state in which the blocks of a loaded frame are consumed. -/
def State.received (t : State) (image : List Byte) : State :=
  ({ t.loaded image with frameValid := true } : State).answer 0 []

theorem received_cnt (t : State) (image : List Byte) : (t.received image).cnt = t.cnt := rfl

theorem received_onlyReceives (t : State) (image : List Byte) : t.OnlyReceives (t.received image) := rfl

/-- Neither the load nor `DEC.FRAME` touches the packer. -/
theorem Awaits.received (h : Awaits t ds out) (image : List Byte) : Awaits (t.received image) ds out := by
  obtain ⟨word, part, rest, hmid, hdigits⟩ := h
  exact ⟨word, part, rest, { hmid with }, hdigits⟩

/-- A frame of the session, loaded between two frames, is ready to be read from its first block on. -/
theorem reading_received (hfault : s.fault = none) (hwf : s.cfg.WellFormed) (hs : s.ResolvesUniform) (hcnt : 0 < s.cnt)
    (hsame : s.OnlyReceives t) (hcur : t.cur = 0) (hawaits : Awaits t ds out) :
    Reading (t.received (s.sessionImage ds 0)) ds out := by
  have hreceives := hsame.trans (received_onlyReceives t (s.sessionImage ds 0))
  have hcurZero : (t.received (s.sessionImage ds 0)).cur = 0 := hcur
  have hshows : (t.received (s.sessionImage ds 0)).ShowsImage ds := by
    rw [← hsame.sessionImage_eq]
    exact showsImage_loaded t ds
  refine ⟨hreceives.fault_eq.trans hfault, hreceives.cfg_eq ▸ hwf, rfl, ?_, fun j d => ?_, ?_⟩
  · rw [hcurZero, hreceives.cnt_eq]
    exact hcnt
  · exact classify_of_showsImage (hreceives.resolvesUniform hs) (hreceives.cfg_eq ▸ hwf) hshows
  · rw [hcurZero]
    exact hawaits.received _

/-- One frame of the canonical decode: loaded, announced and consumed. -/
structure ConsumesFrame (t : State) (image : List Byte) (v : State) (events : List Event) : Prop where
  fault : t.fault = none
  grid : 0 < t.cnt
  not_valid : t.frameValid = false
  length : image.length = t.frameBytes
  blocks : decodeBlocks t.cnt (t.received image) = some (v, events)

namespace ConsumesFrame

variable {image : List Byte} {v : State} {events : List Event} (h : ConsumesFrame t image v events)
  (rest : List (List Byte))
include h

theorem session_decFrame : session [.decFrame] (t.loaded image) = some (t.received image, []) :=
  session_singleton (exec_decFrame_of_not_valid (s := t.loaded image) h.fault h.grid h.not_valid)

theorem decodeFrames_of_done (hdone : v.done = true) : decodeFrames (image :: rest) t = some (v, events) := by
  rw [decodeFrames, hostLoad_of_length h.length]
  dsimp only
  rw [h.session_decFrame]
  dsimp only
  rw [received_cnt, h.blocks]
  exact if_pos hdone

theorem decodeFrames_of_not_done (hdone : v.done = false) {w : State} {more : List Event}
    (hrest : decodeFrames rest v = some (w, more)) :
    decodeFrames (image :: rest) t = some (w, events ++ more) := by
  rw [decodeFrames, hostLoad_of_length h.length]
  dsimp only
  rw [h.session_decFrame]
  dsimp only
  rw [received_cnt, h.blocks]
  dsimp only
  rw [if_neg (Bool.eq_false_iff.mp hdone), hrest]

end ConsumesFrame

/-- The frames of the digits awaited give the rest of the payload. -/
theorem decodeFrames_sessionImages (hfault : s.fault = none) (hwf : s.cfg.WellFormed) (hs : s.ResolvesUniform)
    (hcnt : 0 < s.cnt) (hsame : s.OnlyReceives t) (hvalid : t.frameValid = false) (hcur : t.cur = 0)
    (hawaits : Awaits t ds out) :
    ∃ x, decodeFrames (s.sessionImages ds) t = some (x, out.map .outByte) ∧ x.fault = none ∧ x.done = true := by
  induction hlen : ds.length using Nat.strong_induction_on generalizing ds t out with
  | _ len ih =>
    subst hlen
    by_cases hds : ds = []
    · subst hds
      have hout := (hawaits.nil_iff (hsame.cfg_eq ▸ hwf.1)).mp rfl
      refine ⟨t, ?_, hsame.fault_eq.trans hfault, hawaits.done_iff.mpr hout⟩
      rw [sessionImages_nil hcnt, hout]
      rfl
    · have hreading := reading_received hfault hwf hs hcnt hsame hcur hawaits
      have hstart : (t.received (s.sessionImage ds 0)).cur.toNat = 0 := congrArg BitVec.toNat hcur
      obtain ⟨v, now, later, hblocks, rfl, hlater, hreceives, hend⟩ :=
        hreading.decodeBlocks (n := t.cnt) (by rwa [hstart]) (by rw [hstart, Nat.zero_add]; rfl)
      have hsameV := (hsame.trans (received_onlyReceives t _)).trans hreceives
      have hframe : ConsumesFrame t (s.sessionImage ds 0) v (now.map .outByte) :=
        ⟨hsame.fault_eq.trans hfault, hsame.cnt_eq ▸ hcnt, hvalid,
          by rw [length_sessionImage, hsame.frameBytes_eq], hblocks⟩
      rw [sessionImages_of_ne_nil hcnt hds]
      cases hdone : v.done with
      | true =>
        have hnone := hlater.done_iff.mp hdone
        refine ⟨v, ?_, hsameV.fault_eq.trans hfault, hdone⟩
        rw [hnone, List.append_nil]
        exact hframe.decodeFrames_of_done _ hdone
      | false =>
        obtain ⟨hcurV, hvalidV⟩ := hend hdone
        have hrest : Awaits v (ds.drop s.cnt) later := by
          rw [← hsame.cnt_eq]
          exact hlater
        obtain ⟨x, hframes, hfaultX, hdoneX⟩ :=
          ih _ (length_drop_lt hcnt hds) hsameV hvalidV hcurV hrest rfl
        refine ⟨x, ?_, hfaultX, hdoneX⟩
        rw [List.map_append]
        exact hframe.decodeFrames_of_not_done _ hdone hframes

end

/-! ### The two sessions (R254, R255) -/

section

variable {s : State} (hfault : s.fault = none)
include hfault

theorem exec_csrwGeomW (v : BitVec 12) :
    exec (.csrwGeomW v) s = .next (({ s.restartGrid with geomW := v } : State).answer 0 []) :=
  command_of_running hfault _

theorem exec_csrwGeomH (v : BitVec 12) :
    exec (.csrwGeomH v) s = .next (({ s.restartGrid with geomH := v } : State).answer 0 []) :=
  command_of_running hfault _

theorem exec_csrwGeomB (v : BitVec 12) :
    exec (.csrwGeomB v) s = .next (({ s.restartGrid with geomB := v } : State).answer 0 []) :=
  command_of_running hfault _

theorem exec_csrwClsCtrl (v : BitVec 1) :
    exec (.csrwClsCtrl v) s = .next (({ s with clsCtrl := strategyOf v } : State).answer 0 []) :=
  command_of_running hfault _

theorem exec_csrwTgtLen (v : Word48) :
    exec (.csrwTgtLen v) s = .next (({ s with tgtLen := v, lenSet := true } : State).answer 0 []) :=
  command_of_running hfault _

end

/-- The state after the three geometry writes. -/
def State.withGeometry (s : State) (w h b : BitVec 12) : State :=
  { s.restartGrid with geomW := w, geomH := h, geomB := b, response := some ⟨0, 0, []⟩ }

theorem session_geometry {s : State} (hfault : s.fault = none) (w h b : BitVec 12) (is : List Instr) :
    session (.csrwGeomW w :: .csrwGeomH h :: .csrwGeomB b :: is) s = session is (s.withGeometry w h b) := by
  refine (session_cons_of_answer (exec_csrwGeomW hfault w) _).trans ?_
  refine (session_cons_of_answer (exec_csrwGeomH (by exact hfault) h) _).trans ?_
  exact session_cons_of_answer (exec_csrwGeomB (by exact hfault) b) is

theorem cnt_withGeometry (s : State) (w h b : BitVec 12) :
    (s.withGeometry w h b).cnt = w.toNat / b.toNat * (h.toNat / b.toNat) := cnt_eq_div_mul_div _

/-- The state in which the canonical decode begins: the strategy and the length set, `DEC.START` done. -/
def State.decodeReady (s : State) (strat : BitVec 1) (len : Word48) : State :=
  (({ s with clsCtrl := strategyOf strat, tgtLen := len, lenSet := true } : State).decodeStart).answer 0 []

theorem session_decodeReady {s : State} (hfault : s.fault = none) (hcnt : 0 < s.cnt) (strat : BitVec 1)
    (len : Word48) :
    session [.csrwClsCtrl strat, .csrwTgtLen len, .decStart] s = some (s.decodeReady strat len, []) := by
  refine (session_cons_of_answer (exec_csrwClsCtrl hfault strat) _).trans ?_
  refine (session_cons_of_answer (exec_csrwTgtLen (by exact hfault) len) _).trans ?_
  exact session_cons_of_answer (exec_decStart_of_length (by exact hfault) (by exact hcnt) rfl) []

/-- A decode session begins with the whole stream awaited. -/
theorem awaits_decodeReady {s : State} (hwf : s.cfg.WellFormed) (hcwbuf : s.cwbuf.length = s.cfg.N) (strat : BitVec 1)
    {p : List Byte} (hp : p.length < 2 ^ 48) :
    Awaits (s.decodeReady strat (BitVec.ofNat 48 p.length)) (digitStream (eccEncode s.cfg p)) p := by
  obtain ⟨hK, -⟩ := hwf
  have hN : 0 < s.cfg.N := hK.trans (Nat.le_add_left ..)
  refine ⟨[], [], _, ⟨hcwbuf, rfl, rfl, hN, rfl, rfl, Nat.zero_le 2, rfl, rfl, ?_⟩, rfl⟩
  exact (Nat.mod_eq_of_lt hp).trans (Nat.zero_add _).symm

/-- Settles O58: the frames of the encode session, then the digits of these frames taken one by one. -/
theorem decodeInvertsEncode : Obligations.DecodeInvertsEncode := by
  intro s v w h b strat p hs hsfault hv hvfault hcfg hgrid hp hstrat
  let enc := s.withGeometry w h b
  let dec := (v.withGeometry w h b).decodeReady strat (BitVec.ofNat 48 p.length)
  have henc : 0 < enc.cnt := cnt_withGeometry s w h b ▸ hgrid
  have hgeometry : 0 < (v.withGeometry w h b).cnt := cnt_withGeometry v w h b ▸ hgrid
  obtain ⟨t, hencode⟩ := session_encode (s := enc) hs.params hsfault henc p
  have hresolves : dec.ResolvesUniform := by
    refine hstrat.imp (fun hzero => ?_) fun hthreshold => ?_
    · subst hzero
      rfl
    · rwa [← hcfg] at hthreshold
  have hawaits : Awaits dec (digitStream (eccEncode v.cfg p)) p :=
    awaits_decodeReady (s := v.withGeometry w h b) hv.params hv.cwbuf_length strat hp
  obtain ⟨x, hdecode, hfault, hdone⟩ := decodeFrames_sessionImages (s := dec) hvfault hv.params hresolves hgeometry
    (.refl dec) rfl rfl hawaits
  rw [hcfg, sessionImages_congr (s := enc) (t := dec) rfl rfl rfl] at hdecode
  refine ⟨t, enc.sessionImages (digitStream (eccEncode s.cfg p)), dec, x, ?_, ?_, hdecode, hfault, hdone⟩
  · rw [← sessionFrames_eq_map_sessionImages]
    exact (session_geometry hsfault w h b _).trans hencode
  · exact (session_geometry hvfault w h b _).trans
      (session_decodeReady (s := v.withGeometry w h b) hvfault hgeometry strat _)

end Sys2Proof.Machine
end

section
/-!
The system commands (spec/46_system.md R271, R272): `SYS.RESET` in every state, the two codes of `SYS.ABORT`, and the
answer to an illegal command word in every state.
-/

namespace Sys2Proof.Machine

/-! ### The encodings -/

theorem encodesBare_sysReset : EncodesBare 0x01 .sysReset := fun arg => decode_commandWord 0x01 arg

/-- A word whose fields are not those of a bare command with its `op` byte is refused, for `rsvd` or for `arg`. -/
theorem exists_decode_error_of_encodesBare {op : BitVec 8} {i : Instr} (hbare : EncodesBare op i) {w : Word}
    (hop : opOf w = op) (hne : w ≠ commandWord op 0) : ∃ e, decode w = .error e := by
  by_cases hrsvd : rsvdOf w = 0
  · have hw : commandWord op (argOf w) = w := hop ▸ commandWord_fields w hrsvd
    have harg : argOf w ≠ 0 := fun h => hne (h ▸ hw.symm)
    exact ⟨.operandBits, by rw [← hw, hbare, if_neg harg]⟩
  · exact ⟨.reservedBits, if_neg hrsvd⟩

theorem decode_sysAbort_of_other_code {code : Word48} (h4 : code ≠ 4) (h5 : code ≠ 5) :
    decode (commandWord 0x02 code) = .error .abortCode := by
  rw [decode_commandWord]
  exact (if_neg h4).trans (if_neg h5)

/-! ### The answer to an illegal word (R86, R298) -/

theorem present_of_error {w : Word} {e : DecodeError} (h : decode w = .error e) (s : State) :
    present w s = illegalCommand w s := by
  rw [present, h]

theorem present_of_error_running {s : State} {w : Word} {e : DecodeError} (h : decode w = .error e)
    (hfault : s.fault = none) :
    present w s = .next (s.takeFault .illegalCommand ((opOf w).setWidth 48)) :=
  (present_of_error h s).trans (illegalCommand_of_running w hfault)

theorem present_of_error_faulted {s : State} {w : Word} {e : DecodeError} (h : decode w = .error e)
    (hfault : s.fault ≠ none) : present w s = .next s.refuse :=
  (present_of_error h s).trans (command_of_faulted hfault _)

/-! ### The commands -/

theorem exec_sysReset (s : State) : exec .sysReset s = .next (s.resetRegisters.answer 0 []) := rfl

/-- Of the predicates of R30 only DONE holds after reset: both lengths are 0, and an empty packer is not full because a
codeword has at least one byte. -/
theorem csrValue_status_resetRegisters {s : State} (hwf : s.cfg.WellFormed) (rsp : Word48) (events : List Event) :
    csrValue 0 (s.resetRegisters.answer rsp events) = 0x40 := by
  have hN : 0 < s.cfg.N := hwf.1.trans (Nat.le_add_left ..)
  have hfull : (s.resetRegisters.answer rsp events).cwFull = false := decide_eq_false hN.ne
  have hdone : (s.resetRegisters.answer rsp events).done = true := decide_eq_true le_rfl
  have hfield : (s.resetRegisters.answer rsp events).faultField = 0 := faultField_of_none rfl
  rw [csrValue_status]
  simp [State.statusWord, hfull, hdone, hfield, field, bit]

theorem exec_sysAbortSink {s : State} (hfault : s.fault = none) :
    exec .sysAbortSink s = .next (s.takeFault .sinkUnavailable 0) := command_of_running hfault _

theorem exec_sysAbortSource {s : State} (hfault : s.fault = none) :
    exec .sysAbortSource s = .next (s.takeFault .sourceUnavailable 0) := command_of_running hfault _

/-- Settles O17: the reset runs outside the check for a fault, and the other words of its `op` byte are illegal. -/
theorem systemResetClearsTheRegisters : Obligations.SystemResetClearsTheRegisters := by
  refine ⟨encodesBare_sysReset, fun s hwf => ?_, fun s w hop hne => ?_⟩
  · exact ⟨_, exec_sysReset s, rfl, fun _ => rfl, csrValue_status_resetRegisters hwf 0 []⟩
  · obtain ⟨e, he⟩ := exists_decode_error_of_encodesBare encodesBare_sysReset hop hne
    cases hfault : s.fault with
    | none => rw [present_of_error_running he hfault, hop]; rfl
    | some kind => rw [present_of_error_faulted he (hfault.trans_ne (Option.some_ne_none kind)), State.refuse, hfault]

/-- Settles O19: the decoder knows two codes, and the body of each is one `raise`. -/
theorem systemAbortFaults : Obligations.SystemAbortFaults :=
  ⟨rfl, rfl, fun _ h4 h5 => ⟨.abortCode, decode_sysAbort_of_other_code h4 h5⟩,
    fun _ hfault => exec_sysAbortSink hfault, fun _ hfault => exec_sysAbortSource hfault⟩

end Sys2Proof.Machine
end

section
/-!
Access to the control and status registers (spec/46_system.md R274, R275): the encodings of `CSRR` and `CSRW`, the value
of each CSR (spec/10_state.md R32 to R45), and the effect of the five writes.
-/

namespace Sys2Proof.Machine

/-! ### The encodings -/

/-- The two digits of the `op` byte of `CSRR n` (R85). -/
theorem csrr_op_digits : ∀ n : BitVec 4,
    (0xE0 + n.setWidth 8 : BitVec 8).extractLsb' 4 4 = 0xE#4 ∧ (0xE0 + n.setWidth 8 : BitVec 8).extractLsb' 0 4 = n := by
  decide

theorem encodesBare_csrr (n : BitVec 4) : EncodesBare (0xE0 + n.setWidth 8) (.csrr n) := by
  intro arg
  obtain ⟨hhigh, hlow⟩ := csrr_op_digits n
  rw [decode_commandWord]
  exact (if_pos hhigh).trans (by rw [hlow, noOperand])

theorem encodes_csrwGeomW : Encodes 0xF2 12 .csrwGeomW := fun arg => decode_commandWord 0xF2 arg

theorem encodes_csrwGeomH : Encodes 0xF3 12 .csrwGeomH := fun arg => decode_commandWord 0xF3 arg

theorem encodes_csrwGeomB : Encodes 0xF4 12 .csrwGeomB := fun arg => decode_commandWord 0xF4 arg

theorem encodes_csrwClsCtrl : Encodes 0xF9 1 .csrwClsCtrl := fun arg => decode_commandWord 0xF9 arg

/-- Every value of `arg` has the 48 bits of `TGT_LEN` (R42). -/
theorem encodes_csrwTgtLen : Encodes 0xFA 48 .csrwTgtLen := by
  intro arg
  rw [if_pos arg.isLt, BitVec.setWidth_eq]
  exact decode_commandWord 0xFA arg

/-- The CSRs that no `CSRW` writes (R46). -/
def readOnlyCsrs : List (BitVec 4) := [0, 1, 5, 6, 7, 8, 11, 12, 13, 14, 15]

theorem mem_readOnlyCsrs : ∀ n : BitVec 4, n ≠ 2 → n ≠ 3 → n ≠ 4 → n ≠ 9 → n ≠ 10 → n ∈ readOnlyCsrs := by decide

theorem decode_write_readOnly {n : BitVec 4} (hn : n ∈ readOnlyCsrs) (arg : Word48) :
    decode (commandWord (0xF0 + n.setWidth 8) arg) = .error .readOnlyCsr := by
  rw [decode_commandWord]
  fin_cases hn <;> rfl

/-- The `op` byte of `CSRW n` as the information of a fault. -/
theorem setWidth_csrw_op : ∀ n : BitVec 4,
    (0xF0 + n.setWidth 8 : BitVec 8).setWidth 48 = (0xF0 + n.setWidth 48 : Word48) := by
  decide

/-! ### Response values as numbers -/

/-- `field` loses nothing of a value of at most 48 bits. -/
theorem toNat_field {n : Nat} (v : BitVec n) (h : n ≤ 48) : (field v).toNat = v.toNat :=
  BitVec.toNat_setWidth_of_le h

theorem toNat_numField {n : Nat} (h : n < 2 ^ 48) : (numField n).toNat = n := Nat.mod_eq_of_lt h

/-! ### The values of the CSRs -/

theorem cols_lt (s : State) : s.cols < 4096 := by
  rw [cols_eq_div]
  exact (Nat.div_le_self ..).trans_lt s.geomW.isLt

theorem rows_lt (s : State) : s.rows < 4096 := by
  rw [rows_eq_div]
  exact (Nat.div_le_self ..).trans_lt s.geomH.isLt

theorem toNat_csrValue_cols (s : State) : (csrValue 5 s).toNat = s.geomW.toNat / s.geomB.toNat :=
  (toNat_numField ((cols_lt s).trans (by norm_num))).trans (cols_eq_div s)

theorem toNat_csrValue_rows (s : State) : (csrValue 6 s).toNat = s.geomH.toNat / s.geomB.toNat :=
  (toNat_numField ((rows_lt s).trans (by norm_num))).trans (rows_eq_div s)

theorem toNat_csrValue_cnt (s : State) :
    (csrValue 7 s).toNat = (s.geomW.toNat / s.geomB.toNat) * (s.geomH.toNat / s.geomB.toNat) :=
  (toNat_numField ((cnt_lt s).trans (by norm_num))).trans (cnt_eq_div_mul_div s)

theorem csrValue_clsCtrl (s : State) : csrValue 9 s = if s.clsCtrl = .nearestCorner then 0 else 1 := by
  change field (strategyBit s.clsCtrl) = _
  cases s.clsCtrl <;> rfl

/-- R45: `N`, `K` and `P` are bytes (R9). -/
theorem toNat_csrValue_params0 {s : State} (hwf : s.cfg.WellFormed) :
    (csrValue 13 s).toNat = 65536 * (s.cfg.K + s.cfg.P) + 256 * s.cfg.K + s.cfg.P := by
  obtain ⟨-, -, hN, -⟩ := hwf
  change (State.params0 s).toNat = _
  rw [State.params0, toNat_field _ (by norm_num), toNat_append_eq_add, toNat_append_eq_add, Params.N_eq]
  simp only [BitVec.toNat_ofNat]
  omega

/-- R45: both thresholds are bytes (R9). -/
theorem toNat_csrValue_params1 {s : State} (hwf : s.cfg.WellFormed) :
    (csrValue 14 s).toNat = 256 * s.cfg.tHi + s.cfg.tLo := by
  obtain ⟨-, -, -, hlo, hhi, -⟩ := hwf
  change (State.params1 s).toNat = _
  rw [State.params1, toNat_field _ (by norm_num), toNat_append_eq_add]
  simp only [BitVec.toNat_ofNat]
  omega

/-- R45: the reference width and block side have 12 bits (R9). -/
theorem toNat_csrValue_params2 {s : State} (hwf : s.cfg.WellFormed) :
    (csrValue 15 s).toNat = 4096 * s.cfg.wRef + s.cfg.bRef := by
  obtain ⟨-, -, -, -, -, -, hw, -, hb⟩ := hwf
  change (State.params2 s).toNat = _
  rw [State.params2, toNat_field _ (by norm_num), toNat_append_eq_add]
  simp only [BitVec.toNat_ofNat]
  omega

/-! ### The two commands -/

theorem exec_csrr (n : BitVec 4) (s : State) : exec (.csrr n) s = .next (s.answer (csrValue n s) []) := rfl

/-- Settles O20: a read answers the table of R46, the registers by definition and the derived values by their bounds. -/
theorem csrReadsGiveTheirValues : Obligations.CsrReadsGiveTheirValues :=
  ⟨encodesBare_csrr, exec_csrr, fun s hwf =>
    ⟨rfl, rfl, rfl, rfl, toNat_csrValue_cols s, toNat_csrValue_rows s, toNat_csrValue_cnt s, rfl, csrValue_clsCtrl s,
      rfl, rfl, rfl, toNat_csrValue_params0 hwf, toNat_csrValue_params1 hwf, toNat_csrValue_params2 hwf⟩⟩

/-- An illegal `CSRW` to a running block: the fault entry with the `op` byte (R275, R296). -/
theorem present_illegal_csrw {s : State} {n : BitVec 4} {arg : Word48} {e : DecodeError} (hfault : s.fault = none)
    (h : decode (commandWord (0xF0 + n.setWidth 8) arg) = .error e) :
    present (commandWord (0xF0 + n.setWidth 8) arg) s =
      .next (s.takeFault .illegalCommand (0xF0 + n.setWidth 48)) := by
  rw [present_of_error_running h hfault, opOf_commandWord, setWidth_csrw_op]

/-- Settles O22: the encodings, the refused writes, and the effect of each write. -/
theorem csrWritesTakeEffect : Obligations.CsrWritesTakeEffect :=
  ⟨encodes_csrwGeomW, encodes_csrwGeomH, encodes_csrwGeomB, encodes_csrwClsCtrl, encodes_csrwTgtLen,
    fun n arg h2 h3 h4 h9 h10 => decode_write_readOnly (mem_readOnlyCsrs n h2 h3 h4 h9 h10) arg,
    fun _ _ _ _ hfault h => present_illegal_csrw hfault h,
    fun _ hfault => ⟨exec_csrwGeomW hfault, exec_csrwGeomH hfault, exec_csrwGeomB hfault, exec_csrwClsCtrl hfault,
      exec_csrwTgtLen hfault⟩⟩

end Sys2Proof.Machine
end

section
/-!
Fault entry and the faulted block (spec/60_exceptions.md R296, R298). Every command but `SYS.RESET` and `CSRR` is
`command` of a body. A faulted block refuses `command` of any body; in a running block a body that completes leaves
`FAULT` as it found it, so a fault is entered by `takeFault` alone.
-/

namespace Sys2Proof.Machine

/-! ### What a body ensures when it completes -/

/-- When the body of a command completes, it has the property `p`. -/
def Ensures (p : Done → Prop) (body : Except Stop Done) : Prop := ∀ d, body = .ok d → p d

namespace Ensures

variable {p : Done → Prop} {body : Except Stop Done}

theorem of_ok {d : Done} (h : p d) : Ensures p (.ok d) := by
  rintro _ ⟨⟩
  exact h

theorem of_error (e : Stop) : Ensures p (.error e) := fun _ h => nomatch h

theorem of_raised (k : FaultKind) (info : Word48) : Ensures p (raised k info) := of_error _

theorem of_ite {c : Prop} [Decidable c] {a b : Except Stop Done} (ha : Ensures p a) (hb : Ensures p b) :
    Ensures p (if c then a else b) := by
  split
  · exact ha
  · exact hb

/-- A check that faults, or else the rest of the command. -/
theorem of_guard {c : Prop} [Decidable c] {k : FaultKind} {info : Word48} (h : Ensures p body) :
    Ensures p (if c then raised k info else body) := of_ite (of_raised k info) h

theorem of_onBlock {s : State} {op : Word48} {i : BlockIndex} (h : Ensures p body) :
    Ensures p (onBlock s op i body) := of_guard (of_guard h)

theorem of_encodeReady {s : State} {op : Word48} (h : Ensures p body) : Ensures p (encodeReady s op body) :=
  of_guard (of_guard h)

end Ensures

/-! ### The encode datapath writes only its own registers -/

theorem foldl_emitByte_onlyPaints (e : EncodeRun) (bytes : List Byte) :
    e.state.OnlyPaints (bytes.foldl EncodeRun.emitByte e).state := by
  induction bytes generalizing e with
  | nil => rfl
  | cons x bytes ih =>
    rw [List.foldl_cons]
    exact (emitByte_onlyPaints e x).trans (ih _)

theorem takeByte_onlyEncodes (e : EncodeRun) (b : Byte) : e.state.OnlyEncodes (e.takeByte b).state := by
  have htake : e.state.OnlyEncodes (e.state.rseTake b) := rfl
  have hbyte : e.state.OnlyEncodes ((EncodeRun.mk (e.state.rseTake b) e.events).emitByte b).state :=
    htake.trans (emitByte_onlyPaints ..).onlyEncodes
  unfold EncodeRun.takeByte
  dsimp only
  split
  · have hclear (t : State) : t.OnlyEncodes t.rseClear := rfl
    exact (hbyte.trans (foldl_emitByte_onlyPaints ..).onlyEncodes).trans (hclear _)
  · exact hbyte

theorem padChunk_onlyEncodes (n : Nat) (e : EncodeRun) : e.state.OnlyEncodes (e.padChunk n).state := by
  induction n generalizing e with
  | zero => rfl
  | succ n ih =>
    unfold EncodeRun.padChunk
    split
    · rfl
    · exact (takeByte_onlyEncodes e _).trans (ih _)

theorem flush_onlyEncodes (e : EncodeRun) : e.state.OnlyEncodes e.flush.state := by
  unfold EncodeRun.flush
  split <;> rfl

theorem close_onlyEncodes (e : EncodeRun) : e.state.OnlyEncodes e.close.state := rfl

/-! ### No body writes `FAULT` -/

theorem rsdCorrect_fault {s t : State} {f : Bool} {n : Nat} (h : s.rsdCorrect f = .ok (t, n)) : t.fault = s.fault := by
  obtain ⟨-, rfl, -⟩ | ⟨-, c, -, rfl, -⟩ := rsdCorrect_ok h <;> rfl

/-- A command that completes leaves `FAULT` as it was in `s`. -/
def KeepsFault (s : State) : Except Stop Done → Prop := Ensures fun d => d.state.fault = s.fault

open Ensures in
/-- Every command but `SYS.RESET` and `CSRR` begins with the check for a fault, and its body writes no `FAULT`. -/
theorem exec_eq_command {i : Instr} (hi : runsWhenFaulted i = false) (s : State) :
    ∃ body, exec i s = command s body ∧ KeepsFault s body := by
  cases i with
  | sysReset | csrr _ => cases hi
  | sysAbortSink | sysAbortSource => exact ⟨_, rfl, of_raised _ _⟩
  | aceColorof _ | bccScore _ | bccSnap _ | bccThresh _ | rseStart | rsdStart | flgBlkcnt | flgCurrst | sspStart
  | dscExpand _ | csrwGeomW _ | csrwGeomH _ | csrwGeomB _ | csrwClsCtrl _ | csrwTgtLen _ =>
    exact ⟨_, rfl, of_ok rfl⟩
  | rseByte _ | rsdByte _ | flgCurnext | flgRescale | sspCwrd _ | sspCwpop | dscLoad _ | dscNext | encStart | decEos =>
    exact ⟨_, rfl, of_guard (of_ok rfl)⟩
  | rsePar _ | rsdRead _ | rsdSynd _ | decStart | decFrame => exact ⟨_, rfl, of_guard (of_guard (of_ok rfl))⟩
  | bccClsnc _ | bccClsth _ | bccClassify _ | flgBlkorg _ => exact ⟨_, rfl, of_onBlock (of_ok rfl)⟩
  | acdDigitof c =>
    refine ⟨_, rfl, ?_⟩
    cases digitOf (colorOfWord c) with
    | none => exact of_raised _ _
    | some d => exact of_ok rfl
  | rsdDecode f =>
    refine ⟨_, rfl, of_guard ?_⟩
    cases hcorrect : s.rsdCorrect (decide (f = 1)) with
    | error e => exact of_error e
    | ok corrected => exact of_ok (rsdCorrect_fault hcorrect)
  | sspPush indet d =>
    have htake : (s.sspTake d (decide (indet = 1))).1.fault = s.fault :=
      (sspTake_onlyDecodes s d _).onlyReceives.fault_eq
    exact ⟨_, rfl, of_guard (of_ok htake)⟩
  | encByte b =>
    have hbyte : ((EncodeRun.mk s []).takeByte b).result.state.fault = s.fault := by
      rw [result_state, (takeByte_onlyEncodes ..).fault_eq]
    exact ⟨_, rfl, of_encodeReady (of_ite (of_error _) (of_ok hbyte))⟩
  | encEnd =>
    have hend (n : Nat) : ((EncodeRun.mk s []).padChunk n).flush.close.result.state.fault = s.fault := by
      rw [result_state, (close_onlyEncodes _).fault_eq, (flush_onlyEncodes _).fault_eq,
        (padChunk_onlyEncodes ..).fault_eq]
    exact ⟨_, rfl, of_encodeReady (of_ite (of_error _) (of_ok (hend _)))⟩
  | decBlock =>
    refine ⟨_, rfl, of_guard (of_ite (of_ok rfl) (of_guard (of_ite (of_error _) fun done hdone => ?_)))⟩
    obtain ⟨d, indet, u, out, htake, hstate⟩ := decodeBlock_ok hdone
    rw [hstate, consumeBlock_fault, (takeSymbol_onlyDecodes htake).onlyReceives.fault_eq]

/-! ### Commands to a faulted and to a running block -/

theorem present_of_ok {w : Word} {i : Instr} (h : decode w = .ok i) (s : State) : present w s = exec i s := by
  rw [present, h]

theorem runsWhenFaulted_eq_true {i : Instr} (h : runsWhenFaulted i = true) : i = .sysReset ∨ ∃ n, i = .csrr n := by
  cases i with
  | sysReset => exact .inl rfl
  | csrr n => exact .inr ⟨n, rfl⟩
  | _ => cases h

theorem exec_of_faulted {i : Instr} {s : State} (hi : runsWhenFaulted i = false) (hfault : s.fault ≠ none) :
    exec i s = .next s.refuse := by
  obtain ⟨body, hexec, -⟩ := exec_eq_command hi s
  rw [hexec, command_of_faulted hfault]

/-- A word that is neither of the two commands is refused by a faulted block, legal or not (R298). -/
theorem present_of_faulted {w : Word} {s : State} (hfault : s.fault ≠ none) (hreset : decode w ≠ .ok .sysReset)
    (hcsrr : ∀ n, decode w ≠ .ok (.csrr n)) : present w s = .next s.refuse := by
  cases hdecode : decode w with
  | error e => exact present_of_error_faulted hdecode hfault
  | ok i =>
    have hi : runsWhenFaulted i = false := by
      by_contra hruns
      obtain rfl | ⟨n, rfl⟩ := runsWhenFaulted_eq_true (Bool.not_eq_false _ ▸ hruns)
      · exact hreset hdecode
      · exact hcsrr n hdecode
    rw [present_of_ok hdecode, exec_of_faulted hi hfault]

/-- The two ways a command can end in a running block (R16): `t` is not faulted and answers status 0, or it is the fault
entry from `s`, the state before the command. -/
def CompletesOrFaults (s t : State) : Prop :=
  (t.fault = none ∧ ∃ rsp events, t.response = some ⟨0, rsp, events⟩) ∨ ∃ k info, t = s.takeFault k info

theorem exec_next_of_running {i : Instr} {s t : State} (hfault : s.fault = none) (h : exec i s = .next t) :
    CompletesOrFaults s t := by
  cases hi : runsWhenFaulted i with
  | true =>
    obtain rfl | ⟨n, rfl⟩ := runsWhenFaulted_eq_true hi
    · cases h
      exact .inl ⟨rfl, _, _, rfl⟩
    · cases h
      exact .inl ⟨hfault, _, _, rfl⟩
  | false =>
    obtain ⟨body, hexec, hkeeps⟩ := exec_eq_command hi s
    obtain ⟨hfaulted, -⟩ | ⟨-, d, hd, rfl⟩ | ⟨-, k, info, -, rfl⟩ := command_next (hexec ▸ h)
    · exact absurd hfault hfaulted
    · exact .inl ⟨(hkeeps d hd).trans hfault, d.rsp, d.events, rfl⟩
    · exact .inr ⟨k, info, rfl⟩

/-- An illegal word always ends in the fault entry (R86). -/
theorem present_next_of_running {w : Word} {s t : State} (hfault : s.fault = none) (h : present w s = .next t) :
    CompletesOrFaults s t := by
  obtain ⟨i, -, hexec⟩ | ⟨e, hdecode, -⟩ := present_cases w s
  · exact exec_next_of_running hfault (hexec ▸ h)
  · rw [present_of_error_running hdecode hfault] at h
    cases h
    exact .inr ⟨_, _, rfl⟩

/-! ### The obligations -/

/-- Settles O7: the two commands run outside the check for a fault, every other word is refused by it. -/
theorem faultedBlockRefuses : Obligations.FaultedBlockRefuses := by
  intro s w rest hfault hinbox
  rw [step_command hinbox]
  refine ⟨fun hreset => ?_, fun n hcsrr => ?_, fun hreset hcsrr => present_of_faulted hfault hreset hcsrr⟩
  · rw [present_of_ok hreset, exec_sysReset]
  · rw [present_of_ok hcsrr, exec_csrr]
    rfl

/-- Settles O8: of the two ways a command can end in a running block, completion has neither sign of a fault. -/
theorem faultEntryIsAtomic : Obligations.FaultEntryIsAtomic := by
  intro s t w rest hfault hinbox hstep hsign
  rw [step_command hinbox] at hstep
  obtain ⟨hnone, rsp, events, hresponse⟩ | hentry :=
    present_next_of_running (s := { s with inbox := rest }) hfault hstep
  · obtain hlatched | ⟨r, hr, hstatus⟩ := hsign
    · exact absurd hnone hlatched
    · obtain rfl := Option.some.inj (hresponse.symm.trans hr)
      exact absurd rfl hstatus
  · exact hentry

end Sys2Proof.Machine
end

section
/-!
The command words (spec/30_encoding.md R81 to R88): `decode` and `encode` undo each other, and the words that decode are
those that select a row of the opcode table.
-/

namespace Sys2Proof

/-! ### Encoding and decoding again -/

/-- The fields of an operation select it again in the opcode map. -/
theorem decodeOp_fields (i : Instr) : decodeOp i.op i.arg = .ok i := by
  cases i with
  | aceColorof v | acdDigitof v | bccScore v | bccSnap v | bccThresh v | bccClsnc v | bccClsth v | bccClassify v
  | rseByte v | rsePar v | rsdByte v | rsdDecode v | rsdRead v | rsdSynd v | flgBlkorg v | sspCwrd v | dscLoad v
  | dscExpand v | encByte v | csrwGeomW v | csrwGeomH v | csrwGeomB v | csrwClsCtrl v =>
    rw [Instr.op, Instr.arg]
    exact withOperand_setWidth (by omega) v _
  | sspPush indet d =>
    rw [Instr.op, Instr.arg]
    refine (withOperand_setWidth (n := 4) (by omega) (indet ++ d)
      fun a => .sspPush (a.extractLsb' 3 1) (a.extractLsb' 0 3)).trans ?_
    rw [BitVec.extractLsb'_append_eq_left, BitVec.extractLsb'_append_eq_right]
  | csrr n =>
    have hhigh : (0xE#4 ++ n).extractLsb' 4 4 = 0xE#4 := BitVec.extractLsb'_append_eq_left
    have hlow : (0xE#4 ++ n).extractLsb' 0 4 = n := BitVec.extractLsb'_append_eq_right
    refine (if_pos hhigh).trans ?_
    rw [Instr.op, hlow]
    exact noOperand_zero _
  | csrwTgtLen v =>
    rw [Instr.op, Instr.arg]
    rfl
  | _ => rfl

theorem decode_encode (i : Instr) : decode (encode i) = .ok i := by
  rw [encode, decode_commandWord, decodeOp_fields]

/-- Settles O1: the fields of a command word are those of the operation, which select it. -/
theorem decodeEncodeRoundTrip : Obligations.DecodeEncodeRoundTrip := decode_encode

/-! ### Decoding and encoding again -/

theorem eq_of_noOperand {arg : Word48} {i j : Instr} (h : noOperand arg j = .ok i) : i = j ∧ arg = 0 := by
  obtain ⟨harg, hij⟩ := noOperand_eq_ok.mp h
  exact ⟨hij.symm, harg⟩

/-- An operand whose higher bits are 0 is put back into `arg` whole. -/
theorem setWidth_setWidth_of_lt {n : Nat} {arg : Word48} (h : arg.toNat < 2 ^ n) :
    (arg.setWidth n).setWidth 48 = arg := by
  apply BitVec.eq_of_toNat_eq
  rw [BitVec.toNat_setWidth, BitVec.toNat_setWidth, Nat.mod_eq_of_lt h, Nat.mod_eq_of_lt arg.isLt]

/-- What the opcode map selects has the fields it was selected by. -/
theorem fields_of_decodeOp {op : BitVec 8} {arg : Word48} {i : Instr} (h : decodeOp op arg = .ok i) :
    i.op = op ∧ i.arg = arg := by
  unfold decodeOp at h
  split at h
  · next hE =>
    obtain ⟨rfl, rfl⟩ := eq_of_noOperand h
    refine ⟨?_, rfl⟩
    rw [Instr.op, ← hE, BitVec.extractLsb'_append_extractLsb'_eq_extractLsb' (by rfl)]
    exact BitVec.extractLsb'_eq_self
  · split at h
    case h_2 =>
      split_ifs at h with h4 h5
      · cases h
        exact ⟨rfl, h4.symm⟩
      · cases h
        exact ⟨rfl, h5.symm⟩
    case h_25 =>
      obtain ⟨hlt, rfl⟩ := withOperand_eq_ok.mp h
      refine ⟨rfl, ?_⟩
      rw [Instr.arg, BitVec.extractLsb'_append_extractLsb'_eq_extractLsb' (by rfl), BitVec.extractLsb'_eq_self]
      exact setWidth_setWidth_of_lt hlt
    case h_42 =>
      cases h
      exact ⟨rfl, rfl⟩
    case h_43 => cases h
    -- The bare commands, then those with one operand.
    case h_1 | h_11 | h_14 | h_19 | h_21 | h_22 | h_23 | h_24 | h_27 | h_29 | h_31 | h_33 | h_34 | h_35 | h_36 | h_37 =>
      obtain ⟨rfl, rfl⟩ := eq_of_noOperand h
      exact ⟨rfl, rfl⟩
    all_goals
      obtain ⟨hlt, rfl⟩ := withOperand_eq_ok.mp h
      exact ⟨rfl, setWidth_setWidth_of_lt hlt⟩

theorem encode_of_decode {w : Word} {i : Instr} (h : decode w = .ok i) : encode i = w := by
  unfold decode at h
  split at h
  · next hrsvd =>
    obtain ⟨hop, harg⟩ := fields_of_decodeOp h
    rw [encode, hop, harg, commandWord_fields w hrsvd]
  · cases h

/-- Settles O2, from the fields that selected the instruction. -/
theorem encodeDecodeRoundTrip : Obligations.EncodeDecodeRoundTrip := fun _ _ => encode_of_decode

/-- Settles O4, by evaluation. -/
theorem writtenOutWordsDecode : Obligations.WrittenOutWordsDecode := by
  refine ⟨rfl, rfl, rfl, rfl, rfl, rfl, rfl, rfl, rfl, rfl, rfl, rfl, rfl, rfl, rfl⟩

/-! ### The opcode table (R88) -/

/-- A row as the masks and the values of the `op` byte and of `arg`; `rsvd` is always fixed at 0. -/
def fieldRow (opMask op : BitVec 8) (argMask arg : Word48) : OpcodeRow :=
  ⟨opMask ++ (0xFF#8 ++ argMask), commandWord op arg⟩

theorem fields_append (w : Word) : opOf w ++ (rsvdOf w ++ argOf w) = w := by
  rw [rsvdOf, argOf, BitVec.extractLsb'_append_extractLsb'_eq_extractLsb' (by rfl), opOf,
    BitVec.extractLsb'_append_extractLsb'_eq_extractLsb' (by rfl)]
  exact BitVec.extractLsb'_eq_self

theorem append_inj {n m : Nat} {a b : BitVec n} {c d : BitVec m} : a ++ c = b ++ d ↔ a = b ∧ c = d := by
  refine ⟨fun h => ⟨?_, ?_⟩, fun ⟨hab, hcd⟩ => by rw [hab, hcd]⟩
  · rw [← BitVec.extractLsb'_append_eq_left (a := a) (b := c), h, BitVec.extractLsb'_append_eq_left]
  · rw [← BitVec.extractLsb'_append_eq_right (a := a) (b := c), h, BitVec.extractLsb'_append_eq_right]

theorem selects_fieldRow_iff (w : Word) (opMask op : BitVec 8) (argMask arg : Word48) :
    w &&& (fieldRow opMask op argMask arg).mask = (fieldRow opMask op argMask arg).pattern ↔
      rsvdOf w = 0 ∧ opOf w &&& opMask = op ∧ argOf w &&& argMask = arg := by
  have hrsvd : rsvdOf w &&& 0xFF#8 = rsvdOf w := BitVec.and_allOnes
  have hfields : (opOf w ++ (rsvdOf w ++ argOf w)) &&& (opMask ++ (0xFF#8 ++ argMask)) = op ++ (0#8 ++ arg) ↔
      opOf w &&& opMask = op ∧ rsvdOf w = 0 ∧ argOf w &&& argMask = arg := by
    rw [BitVec.and_append, BitVec.and_append, append_inj, append_inj, hrsvd]
    rfl
  rw [fields_append] at hfields
  exact hfields.trans and_left_comm

/-- The bits of `arg` above an operand of `n` bits. -/
def aboveOperand (n : Nat) : Word48 := BitVec.allOnes 48 <<< n

theorem and_aboveOperand_eq_zero_iff {n : Nat} (arg : Word48) : arg &&& aboveOperand n = 0 ↔ arg.toNat < 2 ^ n := by
  have hbit (i : Nat) : (arg &&& aboveOperand n).getLsbD i = (arg.getLsbD i && decide (n ≤ i)) := by
    by_cases hi : i < 48
    · have hlow : i - n < 48 := by omega
      simp only [aboveOperand, BitVec.getLsbD_and, BitVec.getLsbD_shiftLeft, BitVec.getLsbD_allOnes, hi, hlow,
        decide_true, Bool.true_and, Bool.and_true, ← decide_not, Nat.not_lt]
    · rw [BitVec.getLsbD_of_ge _ i (by omega), BitVec.getLsbD_of_ge arg i (by omega), Bool.false_and]
  constructor
  · intro h
    refine Nat.lt_pow_two_of_testBit arg.toNat fun i hi => ?_
    have hzero := hbit i
    rw [h, decide_eq_true hi, Bool.and_true] at hzero
    exact hzero.symm.trans BitVec.getLsbD_zero
  · intro h
    refine BitVec.eq_of_getLsbD_eq fun i _ => ?_
    refine (hbit i).trans (Eq.trans ?_ BitVec.getLsbD_zero.symm)
    by_cases hi : n ≤ i
    · have hzero : arg.getLsbD i = false := Nat.testBit_lt_two_pow (h.trans_le (Nat.pow_le_pow_right Nat.two_pos hi))
      rw [hzero, Bool.false_and]
    · rw [decide_eq_false hi, Bool.and_false]

/-- A word selects one of the rows. -/
def Selects (w : Word) (rows : List OpcodeRow) : Prop := ∃ row ∈ rows, w &&& row.mask = row.pattern

theorem selects_append_iff {w : Word} {rows rows' : List OpcodeRow} :
    Selects w (rows ++ rows') ↔ Selects w rows ∨ Selects w rows' := by
  simp only [Selects, List.mem_append, or_and_right, exists_or]

/-- The rows of the commands with these `op` bytes and an operand of `n` bits. -/
def operandRows (ops : List (BitVec 8)) (n : Nat) : List OpcodeRow :=
  ops.map fun op => fieldRow 0xFF op (aboveOperand n) 0

theorem selects_operandRows_iff {w : Word} {ops : List (BitVec 8)} {n : Nat} :
    Selects w (operandRows ops n) ↔ rsvdOf w = 0 ∧ opOf w ∈ ops ∧ (argOf w).toNat < 2 ^ n := by
  have hop : opOf w &&& 0xFF = opOf w := BitVec.and_allOnes
  simp only [Selects, operandRows, List.mem_map, exists_exists_and_eq_and, selects_fieldRow_iff, hop,
    and_aboveOperand_eq_zero_iff]
  constructor
  · rintro ⟨op, hmem, hrsvd, rfl, harg⟩
    exact ⟨hrsvd, hmem, harg⟩
  · rintro ⟨hrsvd, hmem, harg⟩
    exact ⟨_, hmem, hrsvd, rfl, harg⟩

/-- The rows of `SYS.ABORT`, whose whole `arg` is fixed. -/
def abortRows : List OpcodeRow := [fieldRow 0xFF 0x02 (aboveOperand 0) 4, fieldRow 0xFF 0x02 (aboveOperand 0) 5]

theorem selects_abortRows_iff {w : Word} :
    Selects w abortRows ↔ rsvdOf w = 0 ∧ opOf w = 0x02 ∧ (argOf w = 4 ∨ argOf w = 5) := by
  have hop : opOf w &&& 0xFF = opOf w := BitVec.and_allOnes
  have harg : argOf w &&& aboveOperand 0 = argOf w := BitVec.and_allOnes
  simp only [Selects, abortRows, List.mem_cons, List.not_mem_nil, or_false, or_and_right, exists_or, exists_eq_left,
    selects_fieldRow_iff, hop, harg, ← and_or_left]

/-- The row of `CSRR`, whose operand is in the `op` byte. -/
def csrrRow : OpcodeRow := fieldRow 0xF0 0xE0 (aboveOperand 0) 0

theorem selects_csrrRow_iff {w : Word} :
    Selects w [csrrRow] ↔ rsvdOf w = 0 ∧ 0xE0 ≤ (opOf w).toNat ∧ (opOf w).toNat ≤ 0xEF ∧ argOf w = 0 := by
  have hop : ∀ op : BitVec 8, op &&& 0xF0 = 0xE0 ↔ 0xE0 ≤ op.toNat ∧ op.toNat ≤ 0xEF := by decide
  have harg : argOf w &&& aboveOperand 0 = argOf w := BitVec.and_allOnes
  simp only [Selects, csrrRow, List.mem_singleton, exists_eq_left, selects_fieldRow_iff, hop, harg, and_assoc]

/-- The rows of the table in the order of `LegalFields`. -/
def legalRows : List OpcodeRow :=
  operandRows [0x01#8, 0x40#8, 0x50#8, 0x60#8, 0x62#8, 0x63#8, 0x64#8, 0x70#8, 0x73#8, 0x81#8, 0x90#8, 0x92#8,
    0xA0#8, 0xA1#8, 0xA2#8, 0xA3#8] 0 ++
  (abortRows ++
  (operandRows [0x10] 3 ++
  (operandRows [0x20#8, 0x30#8, 0x31#8, 0x32#8, 0x33#8, 0x34#8, 0x35#8, 0x61#8] 24 ++
  (operandRows [0x41#8, 0x42#8, 0x51#8, 0x53#8, 0x54#8, 0x72#8, 0x80#8, 0x82#8, 0x91#8] 8 ++
  (operandRows [0x52] 1 ++
  (operandRows [0x71] 4 ++
  ([csrrRow] ++
  (operandRows [0xF2#8, 0xF3#8, 0xF4#8] 12 ++
  (operandRows [0xF9] 1 ++
  operandRows [0xFA] 48)))))))))

theorem opcodeRows_perm_legalRows : opcodeRows.Perm legalRows := by decide +kernel

/-- No two rows of the table fix a bit they share to one value all over. -/
theorem opcodeRows_exclusive :
    ∀ a ∈ opcodeRows, ∀ b ∈ opcodeRows, a.pattern &&& b.mask = b.pattern &&& a.mask → a = b := by decide +kernel

end Sys2Proof

namespace Sys2Proof.Machine

theorem selects_legalRows_iff (w : Word) :
    Selects w legalRows ↔ rsvdOf w = 0 ∧ LegalFields (opOf w) (argOf w) := by
  have hbare : (argOf w).toNat < 1 ↔ argOf w = 0 := by
    rw [Nat.lt_one_iff, ← BitVec.toNat_inj]
    rfl
  have htgt : (argOf w).toNat < 281474976710656 := (argOf w).isLt
  simp only [legalRows, selects_append_iff, selects_operandRows_iff, selects_abortRows_iff, selects_csrrRow_iff,
    ← and_or_left, LegalFields, hbare, htgt, and_true, List.mem_singleton, Nat.reducePow]

theorem decode_accepts_iff_selects (w : Word) : (∃ i, decode w = .ok i) ↔ Selects w opcodeRows := by
  rw [decode_accepts_iff, ← selects_legalRows_iff]
  exact exists_congr fun row => and_congr_left' opcodeRows_perm_legalRows.mem_iff.symm

/-- Settles O3: the rows are the legal fields, and two rows that one word selects agree on the bits both fix. -/
theorem decoderFollowsOpcodeTable : Obligations.DecoderFollowsOpcodeTable := by
  refine ⟨decode_accepts_iff_selects, fun w a b ha hb hwa hwb => opcodeRows_exclusive a ha b hb ?_⟩
  rw [← hwa, ← hwb, BitVec.and_assoc, BitVec.and_assoc, BitVec.and_comm a.mask]

end Sys2Proof.Machine
end

section
/-!
Steps (spec/30_encoding.md R80, spec/60_exceptions.md R312): everything a step can do, the state after either reset, and
the way out of the faulted state (R299).
-/

namespace Sys2Proof.Machine

/-! ### What a step does -/

/-- The state whose first host action has been taken. -/
def State.taken (s : State) (rest : List HostAction) : State := { s with inbox := rest }

theorem step_of_decode {s : State} {w : Word} {rest : List HostAction} {i : Instr}
    (hinbox : s.inbox = .command w :: rest) (hdecode : decode w = .ok i) : step s = exec i (s.taken rest) := by
  rw [step_command hinbox, present_of_ok hdecode]
  rfl

theorem step_withFetchWord (s : State) (i : Instr) : step (s.withFetchWord 64 (encode i).toNat) = exec i s := by
  have hword : BitVec.ofNat 64 ((encode i).toNat % 2 ^ 64) = encode i := by
    rw [Nat.mod_eq_of_lt (encode i).isLt, BitVec.ofNat_toNat, BitVec.setWidth_eq]
  refine (step_of_decode rfl ?_).trans rfl
  rw [hword, decode_encode]

/-- Settles O5. -/
theorem stepRunsDecodedCommand : Obligations.StepRunsDecodedCommand :=
  ⟨fun _ _ _ _ => step_of_decode, step_withFetchWord, fun _ => step_idle⟩

/-- Everything a step can do when it answers a next state. -/
theorem step_next_cases {s t : State} (h : step s = .next t) :
    (s.inbox = [] ∧ t = s) ∨
    (∃ w rest, s.inbox = .command w :: rest ∧ present w (s.taken rest) = .next t) ∨
    (∃ raster rest, s.inbox = .loadFrame raster :: rest ∧ raster.length = s.frameBytes ∧
      t = (s.taken rest).loaded raster) ∨
    (∃ rest, s.inbox = .hardwareReset :: rest ∧ t = (s.taken rest).hardwareReset) := by
  cases hinbox : s.inbox with
  | nil =>
    rw [step_idle hinbox] at h
    exact .inl ⟨rfl, (Host.Outcome.next.inj h).symm⟩
  | cons action rest =>
    cases action with
    | command w =>
      rw [step_command hinbox] at h
      exact .inr (.inl ⟨w, rest, rfl, h⟩)
    | loadFrame raster =>
      rw [step_loadFrame hinbox] at h
      obtain ⟨hlen, ht⟩ := hostLoad_next h
      exact .inr (.inr (.inl ⟨raster, rest, rfl, hlen, ht⟩))
    | hardwareReset =>
      rw [step_hardwareReset hinbox] at h
      exact .inr (.inr (.inr ⟨rest, rfl, (Host.Outcome.next.inj h).symm⟩))

/-! ### Leaving the faulted state (R299) -/

/-- A command to a faulted block keeps the fault, or it is `SYS.RESET`. -/
theorem fault_of_present_of_faulted {w : Word} {s t : State} (hfault : s.fault ≠ none) (h : present w s = .next t) :
    (t.fault = s.fault ∧ t.finfo = s.finfo) ∨ (t.fault = none ∧ t.finfo = 0 ∧ decode w = .ok .sysReset) := by
  by_cases hreset : decode w = .ok .sysReset
  · rw [present_of_ok hreset, exec_sysReset] at h
    cases h
    exact .inr ⟨rfl, rfl, hreset⟩
  · left
    by_cases hcsrr : ∃ n, decode w = .ok (.csrr n)
    · obtain ⟨n, hn⟩ := hcsrr
      rw [present_of_ok hn, exec_csrr] at h
      cases h
      exact ⟨rfl, rfl⟩
    · rw [present_of_faulted hfault hreset (not_exists.mp hcsrr)] at h
      cases h
      exact ⟨rfl, rfl⟩

/-- Settles O12, by what a step can do. -/
theorem onlyResetLeavesTheFaultedState : Obligations.OnlyResetLeavesTheFaultedState := by
  intro s t hfault h
  obtain ⟨-, rfl⟩ | ⟨w, rest, hinbox, hpresent⟩ | ⟨raster, rest, -, -, rfl⟩ | ⟨rest, hinbox, rfl⟩ := step_next_cases h
  · exact .inl ⟨rfl, rfl⟩
  · refine (fault_of_present_of_faulted (s := s.taken rest) hfault hpresent).imp id fun ⟨hnone, hinfo, hdecode⟩ => ?_
    exact ⟨hnone, hinfo, .inr ⟨w, rest, hinbox, hdecode⟩⟩
  · exact .inl ⟨rfl, rfl⟩
  · exact .inr ⟨rfl, rfl, .inl ⟨rest, hinbox⟩⟩

/-! ### The resets and the host's load -/

/-- Settles O16: the registers by definition, the parameters and `STATUS` by their laws. -/
theorem resetStateValues : Obligations.ResetStateValues :=
  ⟨rfl, rfl, rfl, rfl, rfl, rfl, rfl, rfl, rfl, rfl, rfl, rfl, rfl, rfl, rfl, rfl, rfl, rfl, rfl, rfl, rfl, rfl, rfl,
    rfl, build_wellFormed, csrValue_status_reset, rfl, rfl, rfl, rfl, rfl, rfl⟩

/-- Settles O18: nothing is listed in the memory after a hardware reset. -/
theorem hardwareResetClearsTheBlock : Obligations.HardwareResetClearsTheBlock :=
  fun _ _ hinbox => ⟨_, step_hardwareReset hinbox, rfl, fun _ => rfl⟩

/-- A loaded frame reads as its raster, every other byte as before. -/
theorem readByte_loaded_eq (s : State) (raster : List Byte) (a : Nat) :
    (s.loaded raster).readByte a = if a < raster.length then raster.getD a 0 else s.readByte a := by
  split_ifs with ha
  · rw [readByte_loaded s raster ha, List.getD_eq_getElem _ _ ha]
  · rw [readByte_eq, State.loaded, lookup_writeFrame, if_neg ha]
    rfl

/-- Settles O23: the raster's length decides, and the memory's law gives the bytes. -/
theorem hostLoadWritesTheFrame : Obligations.HostLoadWritesTheFrame := by
  intro s raster rest hinbox
  rw [step_loadFrame hinbox]
  exact ⟨fun hlen => ⟨_, hostLoad_of_length hlen, rfl, readByte_loaded_eq (s.taken rest) raster⟩,
    fun hlen => if_neg hlen⟩

end Sys2Proof.Machine
end

section
/-!
The invariant of the machine (`Inv`): the reset state meets it, every register operation of the commands keeps it, and
so does every step. In a state that meets it no command stops the model (assumption log 8).
-/

namespace Sys2Proof.Machine

/-! ### Reset, responses and fault entry -/

/-- The state of a well-formed build after reset, with any canonical memory. -/
theorem inv_init {cfg : Params} (h : cfg.WellFormed) : Inv (State.init cfg) := by
  have hN : 0 < cfg.N := h.1.trans (Nat.le_add_left ..)
  exact {
    params := h
    memory := rfl
    par_length := List.length_replicate
    cwbuf_length := List.length_replicate
    rsdBuf_length := List.length_replicate
    rseCnt_le := Nat.zero_le _
    par_clear := fun _ => rfl
    cwcnt_le := Nat.zero_le _
    rsdCnt_le := Nat.zero_le _
    dcnt_le := Nat.zero_le _
    dacc_lt := Nat.one_pos
    full_on_boundary := fun _ => rfl
    cur_lt := id
    cur_zero := fun _ => rfl
    frame_grid := nofun
    ok_full := nofun
    finfo_zero := fun _ => rfl
    response_shape := nofun }

/-- Settles O10. -/
theorem resetMeetsTheInvariant : Obligations.ResetMeetsTheInvariant :=
  ⟨inv_init build_wellFormed, fun _ => inv_init⟩

namespace Inv

variable {s : State} (h : Inv s)
include h

theorem N_le : s.cfg.N ≤ 255 := by
  obtain ⟨-, -, hN, -⟩ := h.params
  exact s.cfg.N_eq ▸ hN

theorem K_le : s.cfg.K ≤ 255 := by
  obtain ⟨-, -, hN, -⟩ := h.params
  omega

theorem taken (rest : List HostAction) : Inv (s.taken rest) := { h with }

theorem answer (rsp : Word48) (events : List Event) : Inv (s.answer rsp events) := by
  refine { h with response_shape := fun r hr hstatus => ?_ }
  obtain rfl := Option.some.inj hr
  exact absurd rfl hstatus

theorem refuse : Inv s.refuse := by
  refine { h with response_shape := fun r hr _ => ?_ }
  obtain rfl := Option.some.inj hr
  exact ⟨rfl, rfl⟩

theorem takeFault (k : FaultKind) (info : Word48) : Inv (s.takeFault k info) := by
  refine { h with finfo_zero := nofun, response_shape := fun r hr _ => ?_ }
  obtain rfl := Option.some.inj hr
  exact ⟨rfl, rfl⟩

theorem resetRegisters : Inv s.resetRegisters :=
  { inv_init h.params with memory := h.memory, response_shape := h.response_shape }

theorem hardwareReset : Inv s.hardwareReset := { inv_init h.params with }

theorem loaded {raster : List Byte} (hlen : raster.length = s.frameBytes) : Inv (s.loaded raster) :=
  { h with memory := wf_writeFrame h.memory (hlen.le.trans (frameBytes_le_capacity s)) }

/-! ### The cursor and the geometry -/

/-- A geometry write puts the cursor to 0 and drops the loaded frame, whatever it writes (R40). -/
theorem withGeometry (w hgt b : BitVec 12) :
    Inv { s.restartGrid with geomW := w, geomH := hgt, geomB := b } :=
  { h with cur_lt := id, cur_zero := fun _ => rfl, frame_grid := nofun }

theorem curZero : Inv { s with cur := 0 } := { h with cur_lt := id, cur_zero := fun _ => rfl }

/-- The next cursor of a legal grid. -/
theorem toNat_cur_succ (hcnt : 0 < s.cnt) (hlast : s.lastBlock = false) : (s.cur + 1).toNat < s.cnt := by
  have hcur := h.cur_lt hcnt
  have hne : s.cur.toNat + 1 ≠ s.cnt := of_decide_eq_false hlast
  have hlt : s.cur.toNat + 1 < s.cnt := by omega
  rw [BitVec.toNat_add_of_lt (hlt.trans (cnt_lt s))]
  exact hlt

theorem advance (hcnt : 0 < s.cnt) : Inv s.advance := by
  unfold State.advance
  cases hlast : s.lastBlock with
  | true => exact h.curZero
  | false => exact { h with
      cur_lt := fun _ => h.toNat_cur_succ hcnt hlast, cur_zero := fun hzero => absurd hzero hcnt.ne' }

theorem consumeBlock (hcnt : 0 < s.cnt) : Inv s.consumeBlock := by
  refine { h.advance hcnt with frame_grid := fun _ => hcnt }

/-! ### The encoder unit -/

theorem rseClear : Inv s.rseClear :=
  { h with par_length := List.length_replicate, rseCnt_le := Nat.zero_le _, par_clear := fun _ => rfl }

theorem toNat_rseCnt_succ (hK : s.rseCnt.toNat ≠ s.cfg.K) : (s.rseCnt + 1).toNat = s.rseCnt.toNat + 1 := by
  have hle := h.rseCnt_le
  have hK' := h.K_le
  exact toNat_count_add_one (by omega)

theorem rseTake (hK : s.rseCnt.toNat ≠ s.cfg.K) (m : Byte) : Inv (s.rseTake m) := by
  have hcnt := h.toNat_rseCnt_succ hK
  have hle := h.rseCnt_le
  refine { h with
    par_length := length_lfsrStep h.par_length m
    rseCnt_le := ?_
    par_clear := fun hzero => ?_ }
  · rw [rseTake_rseCnt, hcnt, rseTake_cfg]
    omega
  · rw [rseTake_rseCnt] at hzero
    rw [hzero] at hcnt
    exact absurd hcnt (Nat.succ_ne_zero _).symm

/-! ### The decoder unit -/

theorem rsdStart : Inv { s with rsdCnt := 0, rsdOk := false } :=
  { h with rsdCnt_le := Nat.zero_le _, ok_full := nofun }

theorem rsdLoad (hN : s.rsdCnt.toNat ≠ s.cfg.N) (b : Byte) : Inv (s.rsdLoad b) := by
  have hle := h.rsdCnt_le
  have hN' := h.N_le
  refine { h with rsdBuf_length := List.length_set.trans h.rsdBuf_length, rsdCnt_le := ?_, ok_full := nofun }
  rw [rsdLoad_rsdCnt, toNat_count_add_one (by omega), rsdLoad_cfg]
  omega

/-- A full buffer stays full when it is decoded: a correction has the length of what it corrects. -/
theorem rsdCorrect (hfull : s.rsdCnt.toNat = s.cfg.N) {f : Bool} {t : State} {n : Nat}
    (hok : s.rsdCorrect f = .ok (t, n)) : Inv t := by
  obtain ⟨-, rfl, -⟩ | ⟨-, c, hc, rfl, -⟩ := rsdCorrect_ok hok
  · exact { h with ok_full := fun _ => hfull }
  · have hlen := ((rsCorrect_eq_some_iff (h.rsdBuf_length.trans_le h.N_le)).mp hc).1
    exact { h with rsdBuf_length := hlen.trans h.rsdBuf_length, ok_full := fun _ => hfull }

/-! ### The packer -/

theorem sspClear : Inv s.sspClear :=
  { h with
    cwcnt_le := Nat.zero_le _, dcnt_le := Nat.zero_le _, dacc_lt := Nat.one_pos, full_on_boundary := fun _ => rfl }

theorem sspPop (hfull : s.cwcnt.toNat = s.cfg.N) : Inv s.sspPop :=
  { h with cwcnt_le := Nat.zero_le _, full_on_boundary := fun _ => h.full_on_boundary hfull }

/-- A digit more in the accumulator: one more digit of room is taken, or a byte is complete. -/
theorem sspTake (hN : s.cwcnt.toNat ≠ s.cfg.N) (d : Digit) (indet : Bool) : Inv (s.sspTake d indet).1 := by
  by_cases hdcnt : s.dcnt < 2
  · have hlt : s.dcnt.toNat < 2 := BitVec.lt_def.mp hdcnt
    have hsucc : (s.dcnt + 1).toNat = s.dcnt.toNat + 1 := by bv_omega
    have hdacc := h.dacc_lt
    have hd := (pushedDigit d indet).isLt
    have hroom : 8 ^ (s.dcnt.toNat + 1) ≤ 8 ^ 2 := Nat.pow_le_pow_right (by omega) hlt
    have hacc := toNat_accumulate s.dacc (pushedDigit d indet)
    rw [sspTake_partial hdcnt]
    refine { h with dcnt_le := ?_, dacc_lt := ?_, full_on_boundary := fun hfull => absurd hfull hN }
    · rw [hsucc]
      exact hlt
    · rw [hsucc, BitVec.toNat_setWidth, hacc]
      refine (Nat.mod_le _ _).trans_lt ?_
      rw [Nat.pow_succ]
      omega
  · have hle := h.cwcnt_le
    have hN' := h.N_le
    have hroom : (s.cwcnt + 1).toNat ≤ s.cfg.N := by
      rw [toNat_count_add_one (by omega)]
      omega
    rw [sspTake_byte hdcnt]
    exact { h with
      cwbuf_length := List.length_set.trans h.cwbuf_length
      cwcnt_le := hroom
      dcnt_le := Nat.zero_le _
      dacc_lt := Nat.one_pos
      full_on_boundary := fun _ => rfl }

/-! ### The decode datapath (R251) -/

theorem decodeStart : Inv s.decodeStart :=
  { h.sspClear.rsdStart with cur_lt := id, cur_zero := fun _ => rfl, frame_grid := nofun }

theorem frameLoaded (hcnt : 0 < s.cnt) : Inv { s with frameValid := true } := { h with frame_grid := fun _ => hcnt }

theorem decodeCodeword (hfull : s.cwcnt.toNat = s.cfg.N) {t : State} {out : List Byte}
    (hok : s.decodeCodeword = .ok (t, out)) : Inv t := by
  have hN : (BitVec.ofNat 8 s.cfg.N).toNat = s.cfg.N := Nat.mod_eq_of_lt (Nat.lt_succ_of_le h.N_le)
  have hloaded : Inv { s with rsdBuf := s.cwbuf, rsdCnt := BitVec.ofNat 8 s.cfg.N, rsdOk := false } :=
    { h with rsdBuf_length := h.cwbuf_length, rsdCnt_le := hN.le, ok_full := nofun }
  unfold State.decodeCodeword at hok
  split at hok
  · cases hok
  · next u n hcorrect =>
    cases hok
    have hu := hloaded.rsdCorrect hN hcorrect
    have hpop : u.cwcnt.toNat = u.cfg.N := by
      obtain ⟨-, rfl, -⟩ | ⟨-, c, -, rfl, -⟩ := rsdCorrect_ok hcorrect <;> exact hfull
    exact { hu.sspPop hpop with }

theorem takeSymbol (hN : s.cwcnt.toNat ≠ s.cfg.N) {d : Digit} {indet : Bool} {t : State} {out : List Byte}
    (hok : s.takeSymbol d indet = .ok (t, out)) : Inv t := by
  have hpush := h.sspTake hN d indet
  by_cases hdcnt : s.dcnt < 2
  · rw [takeSymbol_of_partial hdcnt] at hok
    cases hok
    exact hpush
  · by_cases hcwcnt : s.cwcnt.toNat + 1 = s.cfg.N
    · rw [takeSymbol_of_codeword hdcnt hcwcnt] at hok
      refine hpush.decodeCodeword ?_ hok
      have hN' := h.N_le
      rw [sspTake_byte hdcnt]
      exact (toNat_count_add_one (by omega)).trans hcwcnt
    · rw [takeSymbol_of_byte hdcnt hcwcnt] at hok
      cases hok
      exact hpush

end Inv

/-! ### Painting (R243) -/

section

variable {s : State} {i : Nat}

/-- The bytes of a pixel inside the frame are addressable (R50, R63). -/
theorem pixelAddress_add_lt {x y k : Nat} (hx : x < s.geomW.toNat) (hy : y < s.geomH.toNat) (hk : k < 3) :
    s.pixelAddress x y + k < s.frameBytes := by
  have hlt : y * s.geomW.toNat + x < s.geomW.toNat * s.geomH.toNat :=
    calc _ < (y + 1) * s.geomW.toNat := by rw [Nat.succ_mul]; omega
      _ ≤ s.geomW.toNat * s.geomH.toNat := by rw [Nat.mul_comm]; exact Nat.mul_le_mul_left _ hy
  rw [State.pixelAddress, State.frameBytes, Nat.mul_assoc]
  omega

/-- Pixels of the frame written one after the other. -/
theorem wf_setPixels {m : Memory} (hm : Memory.wf m = true) (c : Color) {ps : List (Nat × Nat)}
    (hps : ∀ q ∈ ps, q.1 < s.geomW.toNat ∧ q.2 < s.geomH.toNat) :
    Memory.wf (ps.foldl (fun m q => Memory.setPixel m (s.pixelAddress q.1 q.2) c) m) = true := by
  refine List.foldlRecOn ps _ (motive := fun m => Memory.wf m = true) hm fun m hm q hq => wf_setPixel hm ?_ c
  obtain ⟨hx, hy⟩ := hps q hq
  exact (pixelAddress_add_lt hx hy (by omega)).trans_le (frameBytes_le_capacity s)

end

namespace Inv

section

variable {s : State} (h : Inv s) (hcnt : 0 < s.cnt)
include h hcnt

theorem paintBlock (c : Color) : Inv (s.paintBlock c) :=
  { h with memory := wf_setPixels h.memory c fun _ hq => lt_width_and_lt_height_of_mem_blockPixels (h.cur_lt hcnt) hq }

end

theorem blankFrame {s : State} (h : Inv s) : Inv s.blankFrame := { h with memory := wf_blankFrame h.memory }

theorem encodeStart {s : State} (h : Inv s) : Inv s.encodeStart := { h.rseClear.blankFrame.curZero with }

theorem converted {s : State} (h : Inv s) (x : Byte) : Inv (s.converted x) := { h with }

theorem encodeEnd {s : State} (h : Inv s) : Inv s.encodeEnd := { h with }

variable {e : EncodeRun} (h : Inv e.state)
include h

theorem emit : Inv e.emit.state := h.blankFrame.curZero

theorem paintDigit (hcnt : 0 < e.state.cnt) (d : Digit) : Inv (e.paintDigit d).state := by
  have hpaint := h.paintBlock hcnt (colorRom d)
  cases hlast : e.state.lastBlock with
  | true =>
    rw [paintDigit_of_last d hlast]
    exact hpaint.emit
  | false =>
    have hadvance := hpaint.advance hcnt
    rw [State.advance, paintBlock_lastBlock, hlast, if_neg Bool.false_ne_true] at hadvance
    rw [paintDigit_of_not_last d hlast]
    exact hadvance

theorem emitByte (hcnt : 0 < e.state.cnt) (x : Byte) : Inv (e.emitByte x).state := by
  have grid : ∀ (f : EncodeRun) (d : Digit), 0 < f.state.cnt → 0 < (f.paintDigit d).state.cnt := fun f d hf => by
    rwa [(paintDigit_onlyPaints f d).onlyEncodes.cnt_eq]
  have h1 := h.paintDigit hcnt (digitsOf x).1
  have hcnt1 := grid e (digitsOf x).1 hcnt
  have h2 := h1.paintDigit hcnt1 (digitsOf x).2.1
  have hcnt2 := grid _ (digitsOf x).2.1 hcnt1
  have h3 := h2.paintDigit hcnt2 (digitsOf x).2.2
  rw [emitByte_eq]
  exact h3.converted x

theorem emitBytes (hcnt : 0 < e.state.cnt) (bytes : List Byte) : Inv (bytes.foldl EncodeRun.emitByte e).state := by
  induction bytes generalizing e with
  | nil => exact h
  | cons x bytes ih =>
    rw [List.foldl_cons]
    refine ih (e := e.emitByte x) (h.emitByte hcnt x) ?_
    rwa [(emitByte_onlyPaints e x).onlyEncodes.cnt_eq]

/-- A byte of an open chunk: the register is never left full (R244). -/
theorem takeByte (hcnt : 0 < e.state.cnt) (hK : e.state.rseCnt.toNat ≠ e.state.cfg.K) (b : Byte) :
    Inv (e.takeByte b).state ∧ (e.takeByte b).state.rseCnt.toNat ≠ (e.takeByte b).state.cfg.K := by
  have hsend : Inv (e.sendByte b).state := emitByte (e := ⟨e.state.rseTake b, e.events⟩) (h.rseTake hK b) hcnt b
  have hsendCnt : 0 < (e.sendByte b).state.cnt := by
    rwa [EncodeRun.sendByte, (emitByte_onlyPaints _ b).onlyEncodes.cnt_eq]
  rw [takeByte_eq]
  split
  · refine ⟨(hsend.emitBytes hsendCnt _).rseClear, fun hzero => ?_⟩
    have hpos := ((hsend.emitBytes hsendCnt (e.sendByte b).state.par).rseClear).params.1
    exact absurd hzero (Nat.ne_of_lt hpos)
  · next hopen => exact ⟨hsend, hopen⟩

theorem padChunk (hcnt : 0 < e.state.cnt) (hK : e.state.rseCnt.toNat ≠ e.state.cfg.K) (n : Nat) :
    Inv (e.padChunk n).state := by
  induction n generalizing e with
  | zero => exact h
  | succ n ih =>
    unfold EncodeRun.padChunk
    split
    · exact h
    · obtain ⟨htake, hopen⟩ := h.takeByte hcnt hK Config.pad
      refine ih htake ?_ hopen
      rwa [(takeByte_onlyEncodes e _).cnt_eq]

theorem flush : Inv e.flush.state := by
  unfold EncodeRun.flush
  split
  · exact h
  · exact h.emit

theorem close : Inv e.close.state := h.encodeEnd

end Inv

/-! ### Commands -/

/-- A body that never stops the model, and has the property `p` when it completes. -/
def Answers (p : Done → Prop) : Except Stop Done → Prop
  | .ok d => p d
  | .error (.raised _ _) => True
  | .error (.model _) => False

namespace Answers

variable {p : Done → Prop} {body : Except Stop Done}

theorem of_ite {c : Prop} [Decidable c] {a b : Except Stop Done} (ha : c → Answers p a) (hb : ¬ c → Answers p b) :
    Answers p (if c then a else b) := by
  split
  · next hc => exact ha hc
  · next hc => exact hb hc

/-- A check that faults, or else the rest of the command. -/
theorem of_guard {c : Prop} [Decidable c] {k : FaultKind} {info : Word48} (h : ¬ c → Answers p body) :
    Answers p (if c then raised k info else body) := of_ite (fun _ => trivial) h

theorem of_onBlock {s : State} {op : Word48} {i : BlockIndex} (h : Answers p body) :
    Answers p (onBlock s op i body) := of_guard fun _ => of_guard fun _ => h

theorem of_encodeReady {s : State} {op : Word48} (h : 0 < s.cnt → s.rseCnt.toNat ≠ s.cfg.K → Answers p body) :
    Answers p (encodeReady s op body) :=
  of_guard fun hcnt => of_guard fun hready => h (Nat.pos_of_ne_zero hcnt) fun hfull => hready (.inr hfull)

end Answers

/-- The state a command leaves meets the invariant. -/
def KeepsInv : Except Stop Done → Prop := Answers fun d => Inv d.state

theorem decodeCodeword_error {s : State} {e : Stop} (h : s.decodeCodeword = .error e) :
    ∃ k info, e = .raised k info := by
  unfold State.decodeCodeword at h
  split at h
  · next hcorrect =>
    obtain ⟨-, -, rfl⟩ := rsdCorrect_error hcorrect
    cases h
    exact ⟨_, _, rfl⟩
  · cases h

theorem takeSymbol_error {s : State} {d : Digit} {indet : Bool} {e : Stop} (h : s.takeSymbol d indet = .error e) :
    ∃ k info, e = .raised k info := by
  by_cases hdcnt : s.dcnt < 2
  · rw [takeSymbol_of_partial hdcnt] at h
    cases h
  · by_cases hcwcnt : s.cwcnt.toNat + 1 = s.cfg.N
    · rw [takeSymbol_of_codeword hdcnt hcwcnt] at h
      exact decodeCodeword_error h
    · rw [takeSymbol_of_byte hdcnt hcwcnt] at h
      cases h

theorem digitOfResult_error {r : ClassResult} {e : Stop} (h : digitOfResult r = .error e) :
    ∃ k info, e = .raised k info := by
  unfold digitOfResult at h
  split at h
  · cases h
  · split at h
    · cases h
    · cases h
      exact ⟨_, _, rfl⟩

/-- A block that does not complete raises a fault of the spec. -/
theorem decodeBlock_error {s : State} {e : Stop} (h : s.decodeBlock = .error e) : ∃ k info, e = .raised k info := by
  unfold State.decodeBlock at h
  split at h
  · next hdigit =>
    cases h
    exact digitOfResult_error hdigit
  · split at h
    · next htake =>
      cases h
      exact takeSymbol_error htake
    · cases h

theorem KeepsInv.of_result {e : EncodeRun} (h : Inv e.state) : KeepsInv (.ok e.result) := h

open Answers in
/-- Every command but `SYS.RESET` and `CSRR` has a body that keeps the invariant and does not stop the model. -/
theorem exec_keepsInv {i : Instr} (hi : runsWhenFaulted i = false) {s : State} (h : Inv s) :
    ∃ body, exec i s = command s body ∧ KeepsInv body := by
  cases i with
  | sysReset | csrr _ => cases hi
  | sysAbortSink | sysAbortSource => exact ⟨_, rfl, trivial⟩
  | aceColorof _ | bccScore _ | bccSnap _ | bccThresh _ | flgBlkcnt | dscExpand _ => exact ⟨_, rfl, h⟩
  | csrwClsCtrl _ | csrwTgtLen _ => exact ⟨_, rfl, { h with }⟩
  | csrwGeomW w => exact ⟨_, rfl, h.withGeometry w s.geomH s.geomB⟩
  | csrwGeomH hgt => exact ⟨_, rfl, h.withGeometry s.geomW hgt s.geomB⟩
  | csrwGeomB b => exact ⟨_, rfl, h.withGeometry s.geomW s.geomH b⟩
  | flgRescale => exact ⟨_, rfl, of_guard fun _ => h.withGeometry s.geomW s.geomH _⟩
  | flgCurrst => exact ⟨_, rfl, h.curZero⟩
  | flgCurnext => exact ⟨_, rfl, of_guard fun hcnt => h.advance (Nat.pos_of_ne_zero hcnt)⟩
  | dscLoad _ | dscNext => exact ⟨_, rfl, of_guard fun _ => { h with }⟩
  | sspCwrd _ | decEos => exact ⟨_, rfl, of_guard fun _ => h⟩
  | rsePar _ | rsdRead _ | rsdSynd _ => exact ⟨_, rfl, of_guard fun _ => of_guard fun _ => h⟩
  | bccClsnc _ | bccClsth _ | bccClassify _ | flgBlkorg _ => exact ⟨_, rfl, of_onBlock h⟩
  | acdDigitof c =>
    refine ⟨_, rfl, ?_⟩
    cases digitOf (colorOfWord c) with
    | none => exact trivial
    | some d => exact h
  | rseStart => exact ⟨_, rfl, h.rseClear⟩
  | rseByte m => exact ⟨_, rfl, of_guard fun hK => h.rseTake hK m⟩
  | rsdStart => exact ⟨_, rfl, h.rsdStart⟩
  | rsdByte b => exact ⟨_, rfl, of_guard fun hN => h.rsdLoad hN b⟩
  | rsdDecode f =>
    refine ⟨_, rfl, of_guard fun hfull => ?_⟩
    cases hcorrect : s.rsdCorrect (decide (f = 1)) with
    | error e =>
      obtain ⟨-, -, rfl⟩ := rsdCorrect_error hcorrect
      exact trivial
    | ok corrected => exact h.rsdCorrect (not_not.mp hfull) hcorrect
  | sspStart => exact ⟨_, rfl, h.sspClear⟩
  | sspPush indet d => exact ⟨_, rfl, of_guard fun hN => h.sspTake hN d _⟩
  | sspCwpop => exact ⟨_, rfl, of_guard fun hfull => h.sspPop (not_not.mp hfull)⟩
  | encStart => exact ⟨_, rfl, of_guard fun _ => h.encodeStart⟩
  | encByte b =>
    refine ⟨_, rfl, of_encodeReady fun hcnt hK => of_ite (fun hout => ?_) fun _ => ?_⟩
    · exact absurd (h.cur_lt hcnt) hout.not_gt
    · exact KeepsInv.of_result (Inv.takeByte (e := ⟨s, []⟩) h hcnt hK b).1
  | encEnd =>
    refine ⟨_, rfl, of_encodeReady fun hcnt hK => of_ite (fun hout => ?_) fun _ => ?_⟩
    · exact absurd (h.cur_lt hcnt) hout.2.not_gt
    · exact KeepsInv.of_result (Inv.padChunk (e := ⟨s, []⟩) h hcnt hK _).flush.close
  | decStart => exact ⟨_, rfl, of_guard fun _ => of_guard fun _ => h.decodeStart⟩
  | decFrame => exact ⟨_, rfl, of_guard fun hcnt => of_guard fun _ => h.frameLoaded (Nat.pos_of_ne_zero hcnt)⟩
  | decBlock =>
    refine ⟨_, rfl, of_guard fun hcnt => of_ite (fun _ => h) fun _ => of_guard fun hready =>
      of_ite (fun hout => ?_) fun _ => ?_⟩
    · exact absurd (h.cur_lt (Nat.pos_of_ne_zero hcnt)) hout.not_gt
    · cases hbody : s.decodeBlock with
      | error e =>
        obtain ⟨k, info, rfl⟩ := decodeBlock_error hbody
        exact trivial
      | ok done =>
        obtain ⟨d, indet, u, out, htake, hstate⟩ := decodeBlock_ok hbody
        have hu := h.takeSymbol (fun hfull => hready (.inr hfull)) htake
        have hcntU : u.cnt = s.cnt := (takeSymbol_onlyDecodes htake).onlyReceives.cnt_eq
        have hdone := hu.consumeBlock (hcntU ▸ Nat.pos_of_ne_zero hcnt)
        rw [← hstate] at hdone
        exact hdone

/-- A command keeps the invariant; it is always answered, with a next state and a response. -/
theorem command_of_keepsInv {s : State} (h : Inv s) {body : Except Stop Done} (hbody : KeepsInv body) :
    ∃ t r, command s body = .next t ∧ t.response = some r ∧ Inv t := by
  by_cases hfault : s.fault = none
  · rw [command_of_running hfault]
    match body, hbody with
    | .ok d, hd => exact ⟨_, _, rfl, rfl, Inv.answer hd d.rsp d.events⟩
    | .error (.raised k info), _ => exact ⟨_, _, rfl, rfl, h.takeFault k info⟩
  · exact ⟨_, _, command_of_faulted hfault body, rfl, h.refuse⟩

theorem exec_of_inv (i : Instr) {s : State} (h : Inv s) : ∃ t r, exec i s = .next t ∧ t.response = some r ∧ Inv t := by
  cases hi : runsWhenFaulted i with
  | true =>
    obtain rfl | ⟨n, rfl⟩ := runsWhenFaulted_eq_true hi
    · exact ⟨_, _, exec_sysReset s, rfl, h.resetRegisters.answer _ _⟩
    · exact ⟨_, _, exec_csrr n s, rfl, h.answer _ _⟩
  | false =>
    obtain ⟨body, hexec, hkeeps⟩ := exec_keepsInv hi h
    rw [hexec]
    exact command_of_keepsInv h hkeeps

/-- Every word is answered, an illegal one by its fault entry. -/
theorem present_of_inv (w : Word) {s : State} (h : Inv s) :
    ∃ t r, present w s = .next t ∧ t.response = some r ∧ Inv t := by
  obtain ⟨i, -, hpresent⟩ | ⟨e, -, hpresent⟩ := present_cases w s
  · rw [hpresent]
    exact exec_of_inv i h
  · rw [hpresent]
    exact command_of_keepsInv h trivial

/-- Settles O9: the invariant is kept by every kind of step. -/
theorem stepKeepsTheMachineWellFormed : Obligations.StepKeepsTheMachineWellFormed := by
  intro s t h hstep
  obtain ⟨-, rfl⟩ | ⟨w, rest, -, hpresent⟩ | ⟨raster, rest, -, hlen, rfl⟩ | ⟨rest, -, rfl⟩ := step_next_cases hstep
  · exact h
  · obtain ⟨u, r, hu, -, hinv⟩ := present_of_inv w (h.taken rest)
    obtain rfl := Host.Outcome.next.inj (hpresent.symm.trans hu)
    exact hinv
  · exact (h.taken rest).loaded hlen
  · exact (h.taken rest).hardwareReset

end Sys2Proof.Machine
end

section
/-!
Runs of the encode datapath counted in digits (spec/45_datapath.md R243 to R245): whatever `ENC.BYTE` and `ENC.END`
send, the picture advances by painted digits alone, and between them only registers are written.
-/

namespace Sys2Proof.Machine

/-! ### The memory cells that painting writes -/

theorem lookup_paintBlock_of_le {s : State} (hcur : s.cur.toNat < s.cnt) (c : Color) {a : Nat}
    (ha : s.frameBytes ≤ a) : Memory.lookup (s.paintBlock c).frame a = Memory.lookup s.frame a := by
  rw [paintBlock_frame, lookup_setPixels, if_neg]
  rintro ⟨⟨x, y⟩, hq, hnum⟩
  obtain ⟨hx, hy⟩ := lt_width_and_lt_height_of_mem_blockPixels hcur hq
  have haddress := pixelAddress_add_lt hx hy (Nat.mod_lt a (by omega : 0 < 3))
  rw [State.pixelAddress, hnum, Nat.div_add_mod] at haddress
  exact haddress.not_ge ha

theorem lookup_blankFrame (s : State) (a : Nat) : Memory.lookup s.blankFrame.frame a =
    if a < s.frameBytes then some 0 else Memory.lookup s.frame a := by
  rw [blankFrame_frame, lookup_writeFrame, List.length_replicate]
  split
  · next h => exact List.getElem?_replicate_of_lt h
  · rfl

/-- Every addressable byte has been written with 0. -/
def State.Blank (s : State) : Prop := ∀ a < s.frameBytes, Memory.lookup s.frame a = some 0

/-! ### Digits counted -/

/-- The run `f` is reached from `e` by painting `n` digits and by writing registers that leave the picture alone. -/
inductive Painted (e : EncodeRun) : Nat → EncodeRun → Prop
  | start : Painted e 0 e
  | digit {n : Nat} {f : EncodeRun} (h : Painted e n f) (d : Digit) : Painted e (n + 1) (f.paintDigit d)
  | registers {n : Nat} {f : EncodeRun} (h : Painted e n f) {t : State} (hsame : f.state.OnlyEncodes t)
      (hcur : t.cur = f.state.cur) (hframe : t.frame = f.state.frame) : Painted e n ⟨t, f.events⟩

namespace Painted

variable {e f g : EncodeRun} {n m : Nat}

theorem trans (hef : Painted e n f) (hfg : Painted f m g) : Painted e (n + m) g := by
  induction hfg with
  | start => exact hef
  | digit _ d ih => exact ih.digit d
  | registers _ hsame hcur hframe ih => exact ih.registers hsame hcur hframe

/-! ### What is sent -/

theorem converted (h : Painted e n f) (x : Byte) : Painted e n ⟨f.state.converted x, f.events⟩ :=
  h.registers (converted_onlyPaints _ x).onlyEncodes rfl rfl

theorem emitByte (h : Painted e n f) (x : Byte) : Painted e (n + 3) (f.emitByte x) := by
  rw [emitByte_eq]
  exact (((h.digit _).digit _).digit _).converted x

theorem emitBytes (h : Painted e n f) (bytes : List Byte) :
    Painted e (n + 3 * bytes.length) (bytes.foldl EncodeRun.emitByte f) := by
  induction bytes generalizing n f with
  | nil => exact h
  | cons x bytes ih =>
    have hrest := ih (h.emitByte x)
    rw [List.foldl_cons, List.length_cons]
    rwa [show n + 3 * (bytes.length + 1) = n + 3 + 3 * bytes.length by omega]

theorem sendByte (h : Painted e n f) (b : Byte) : Painted e (n + 3) (f.sendByte b) :=
  (h.registers (t := f.state.rseTake b) rfl rfl rfl).emitByte b

theorem closeChunk (h : Painted e n f) : Painted e (n + 3 * f.state.par.length) f.closeChunk :=
  (h.emitBytes f.state.par).registers rfl rfl rfl

theorem exists_takeByte (h : Painted e n f) (b : Byte) : ∃ k, Painted e k (f.takeByte b) := by
  rw [takeByte_eq]
  split
  · exact ⟨_, (h.sendByte b).closeChunk⟩
  · exact ⟨_, h.sendByte b⟩

theorem exists_padChunk (h : Painted e n f) (count : Nat) : ∃ k, Painted e k (f.padChunk count) := by
  induction count generalizing n f with
  | zero => exact ⟨n, h⟩
  | succ count ih =>
    rw [EncodeRun.padChunk]
    split
    · exact ⟨n, h⟩
    · obtain ⟨k, hk⟩ := h.exists_takeByte Config.pad
      exact ih hk

/-! ### What painting does -/

theorem onlyEncodes (h : Painted e n f) : e.state.OnlyEncodes f.state := by
  induction h with
  | start => rfl
  | digit _ d ih => exact ih.trans (paintDigit_onlyPaints _ d).onlyEncodes
  | registers _ hsame _ _ ih => exact ih.trans hsame

theorem cnt_eq (h : Painted e n f) : f.state.cnt = e.state.cnt := h.onlyEncodes.cnt_eq

theorem frameBytes_eq (h : Painted e n f) : f.state.frameBytes = e.state.frameBytes := h.onlyEncodes.frameBytes_eq

theorem frame_eq (h : Painted e 0 f) : f.state.frame = e.state.frame := by
  generalize hn : 0 = n at h
  induction h with
  | start => rfl
  | digit => cases hn
  | registers _ _ _ hframe ih => exact hframe.trans (ih hn)

variable (hcur : e.state.cur.toNat < e.state.cnt)
include hcur

/-- The cursor counts the digits, around the grid (R24, R243). -/
theorem cur_eq (h : Painted e n f) : f.state.cur.toNat = (e.state.cur.toNat + n) % e.state.cnt := by
  induction h with
  | start => exact (Nat.mod_eq_of_lt hcur).symm
  | registers _ _ hsamecur _ ih => rw [hsamecur, ih]
  | @digit n f h d ih =>
    rw [← Nat.add_assoc]
    by_cases hlast : (e.state.cur.toNat + n) % e.state.cnt + 1 = e.state.cnt
    · rw [paintDigit_of_last d (by rw [lastBlock_iff, ih, h.cnt_eq, hlast]), (succ_div_mod_of_last hlast).2]
      rfl
    · have hnot : f.state.lastBlock = false := by
        rwa [Bool.eq_false_iff, ne_eq, lastBlock_iff, ih, h.cnt_eq]
      have hsmall := cnt_lt e.state
      have hlt := Nat.mod_lt (e.state.cur.toNat + n) (Nat.zero_lt_of_lt hcur)
      rw [paintDigit_of_not_last d hnot, (succ_div_mod_of_not_last (Nat.zero_lt_of_lt hcur) hlast).2, ← ih]
      refine BitVec.toNat_add_of_lt ?_
      rw [ih]
      exact (Nat.succ_le_of_lt hlt).trans_lt hsmall

theorem cur_lt (h : Painted e n f) : f.state.cur.toNat < f.state.cnt := by
  rw [h.cur_eq hcur, h.cnt_eq]
  exact Nat.mod_lt _ (Nat.zero_lt_of_lt hcur)

/-- A frame is emitted each time the digits fill one, a whole raster (R243, R247). -/
theorem events_eq (h : Painted e n f) : ∃ images : List (List Byte), f.events = e.events ++ images.map .emitFrame ∧
    images.length = (e.state.cur.toNat + n) / e.state.cnt ∧ ∀ image ∈ images, image.length = e.state.frameBytes := by
  induction h with
  | start => exact ⟨[], (List.append_nil _).symm, (Nat.div_eq_of_lt hcur).symm, nofun⟩
  | registers _ _ _ _ ih => exact ih
  | @digit n f h d ih =>
    obtain ⟨images, hevents, hlen, hraster⟩ := ih
    have hcurEq := h.cur_eq hcur
    rw [← Nat.add_assoc]
    by_cases hlast : (e.state.cur.toNat + n) % e.state.cnt + 1 = e.state.cnt
    · refine ⟨images ++ [(f.state.paintBlock (colorRom d)).frameImage], ?_, ?_, ?_⟩
      · rw [paintDigit_of_last d (by rw [lastBlock_iff, hcurEq, h.cnt_eq, hlast]), List.map_append,
          ← List.append_assoc, ← hevents]
        rfl
      · rw [List.length_append, hlen, (succ_div_mod_of_last hlast).1, List.length_singleton]
      · intro image himage
        rcases List.mem_append.mp himage with hold | hnew
        · exact hraster image hold
        · rw [List.mem_singleton.mp hnew, State.frameImage, List.length_map, List.length_range, paintBlock_frameBytes,
            h.frameBytes_eq]
    · have hnot : f.state.lastBlock = false := by
        rwa [Bool.eq_false_iff, ne_eq, lastBlock_iff, hcurEq, h.cnt_eq]
      refine ⟨images, ?_, ?_, hraster⟩
      · rw [paintDigit_of_not_last d hnot]
        exact hevents
      · rw [hlen, (succ_div_mod_of_not_last (Nat.zero_lt_of_lt hcur) hlast).1]

/-- Painting writes inside the addressable range alone (R65). -/
theorem lookup_of_le (h : Painted e n f) {a : Nat} (ha : e.state.frameBytes ≤ a) :
    Memory.lookup f.state.frame a = Memory.lookup e.state.frame a := by
  induction h with
  | start => rfl
  | registers _ _ _ hframe ih => rw [hframe, ih]
  | @digit n f h d ih =>
    have hrange : f.state.frameBytes ≤ a := h.frameBytes_eq ▸ ha
    rw [← ih, ← lookup_paintBlock_of_le (h.cur_lt hcur) (colorRom d) hrange]
    cases hlast : f.state.lastBlock with
    | false => rw [paintDigit_of_not_last d hlast]
    | true =>
      rw [paintDigit_of_last d hlast]
      exact (lookup_blankFrame (f.state.paintBlock (colorRom d)) a).trans (if_neg hrange.not_gt)

theorem readByte_of_le (h : Painted e n f) {a : Nat} (ha : e.state.frameBytes ≤ a) :
    f.state.readByte a = e.state.readByte a := by
  rw [readByte_eq, readByte_eq, h.lookup_of_le hcur ha, h.onlyEncodes.frameEpoch_eq]

/-- Between two frames the frame is blank: a frame is blanked as it is emitted (R243). -/
theorem blank_of_cur_eq_zero (h : Painted e n f) (hstart : n = 0 → e.state.cur = 0 → e.state.Blank)
    (hzero : f.state.cur = 0) : f.state.Blank := by
  induction h with
  | start => exact hstart rfl hzero
  | registers _ hsame hsamecur hframe ih =>
    intro a ha
    rw [hframe]
    exact ih hstart (hsamecur ▸ hzero) a (hsame.frameBytes_eq ▸ ha)
  | @digit n f h d ih =>
    cases hlast : f.state.lastBlock with
    | true =>
      rw [paintDigit_of_last d hlast]
      exact fun a ha => (lookup_blankFrame (f.state.paintBlock (colorRom d)) a).trans (if_pos ha)
    | false =>
      exfalso
      rw [paintDigit_of_not_last d hlast] at hzero
      have hnot : f.state.cur.toNat + 1 ≠ f.state.cnt := mt (lastBlock_iff f.state).mpr (Bool.eq_false_iff.mp hlast)
      have hcount : (f.state.cur + 1).toNat = f.state.cur.toNat + 1 :=
        BitVec.toNat_add_of_lt ((Nat.lt_of_le_of_ne (h.cur_lt hcur) hnot).trans (cnt_lt f.state))
      rw [show f.state.cur + 1 = 0 from hzero] at hcount
      cases hcount

end Painted

end Sys2Proof.Machine
end

section
/-!
What a command leaves unchanged: the registers whose column "written by" in spec/10_state.md R23 does not list it, the
bytes of `FRAME` (spec/20_memory.md R65), and the count of the bytes put out (spec/45_datapath.md R253).
-/

namespace Sys2Proof.Machine

/-! ### The frame of a command -/

/-- The bytes of the `OutByte` events of a response. -/
def outBytes (events : List Event) : List Byte := events.filterMap Event.payload

/-- From `s` a command `i` has come to `t` with these events and has written nothing it is not listed for. -/
structure Framed (i : Instr) (s t : State) (events : List Event) : Prop where
  cur : writesCur i = false → t.cur = s.cur
  dscByte : writesDscByte i = false → t.dscByte = s.dscByte
  dscPh : writesDscPh i = false → t.dscPh = s.dscPh
  digits : writesDigits i = false → t.dacc = s.dacc ∧ t.dcnt = s.dcnt
  cwbuf : writesCwbuf i = false → t.cwbuf = s.cwbuf
  cwcnt : writesCwcnt i = false → t.cwcnt = s.cwcnt ∧ t.cflag = s.cflag
  cwidx : writesCwidx i = false → t.cwidx = s.cwidx
  par : writesPar i = false → t.par = s.par ∧ t.rseCnt = s.rseCnt
  rsdBuf : writesRsdBuf i = false → t.rsdBuf = s.rsdBuf
  rsdCnt : writesRsdCnt i = false → t.rsdCnt = s.rsdCnt
  rsdOk : writesRsdOk i = false → t.rsdOk = s.rsdOk
  outCnt : writesOutCnt i = false → t.outCnt = s.outCnt
  counted : i ≠ .decStart → t.outCnt = s.outCnt + BitVec.ofNat 48 (outBytes events).length
  frameValid : writesFrameValid i = false → t.frameValid = s.frameValid
  length : writesLength i = false → t.lenSet = s.lenSet ∧ t.tgtLen = s.tgtLen
  geomW : (¬ ∃ v, i = .csrwGeomW v) → t.geomW = s.geomW
  geomH : (¬ ∃ v, i = .csrwGeomH v) → t.geomH = s.geomH
  geomB : ¬ (i = .flgRescale ∨ ∃ v, i = .csrwGeomB v) → t.geomB = s.geomB
  clsCtrl : (¬ ∃ v, i = .csrwClsCtrl v) → t.clsCtrl = s.clsCtrl
  frame : writesFrame i = false → t.frame = s.frame
  cfg : t.cfg = s.cfg
  frameEpoch : t.frameEpoch = s.frameEpoch
  inbox : t.inbox = s.inbox

theorem add_no_outBytes (n : Word48) : n = n + BitVec.ofNat 48 (outBytes []).length := (BitVec.add_zero n).symm

theorem Framed.refl (i : Instr) (s : State) : Framed i s s [] := by
  constructor
  case counted => exact fun _ => add_no_outBytes _
  case digits | cwcnt | par | length => exact fun _ => ⟨rfl, rfl⟩
  case cfg | frameEpoch | inbox => rfl
  all_goals exact fun _ => rfl

/-! ### The encode datapath puts out frames and no bytes -/

theorem outBytes_emit (e : EncodeRun) : outBytes e.emit.events = outBytes e.events :=
  List.filterMap_append.trans (List.append_nil _)

theorem outBytes_paintDigit (e : EncodeRun) (d : Digit) : outBytes (e.paintDigit d).events = outBytes e.events := by
  cases hlast : e.state.lastBlock with
  | true =>
    rw [paintDigit_of_last d hlast]
    exact outBytes_emit _
  | false => rw [paintDigit_of_not_last d hlast]

theorem Painted.outBytes_eq {e f : EncodeRun} {n : Nat} (h : Painted e n f) :
    outBytes f.events = outBytes e.events := by
  induction h with
  | start => rfl
  | digit _ d ih => exact (outBytes_paintDigit _ d).trans ih
  | registers _ _ _ _ ih => exact ih

theorem outBytes_takeByte (e : EncodeRun) (b : Byte) : outBytes (e.takeByte b).events = outBytes e.events := by
  obtain ⟨k, hpainted⟩ := (Painted.start (e := e)).exists_takeByte b
  exact hpainted.outBytes_eq

theorem outBytes_padChunk (e : EncodeRun) (count : Nat) : outBytes (e.padChunk count).events = outBytes e.events := by
  obtain ⟨k, hpainted⟩ := (Painted.start (e := e)).exists_padChunk count
  exact hpainted.outBytes_eq

theorem outBytes_flush (e : EncodeRun) : outBytes e.flush.events = outBytes e.events := by
  unfold EncodeRun.flush
  split
  · rfl
  · exact outBytes_emit e

/-- A command listed for what the encode datapath writes. -/
theorem Framed.of_onlyEncodes {i : Instr} {s t : State} {events : List Event} (h : s.OnlyEncodes t)
    (hevents : outBytes events = []) (hcur : writesCur i = true) (hbyte : writesDscByte i = true)
    (hph : writesDscPh i = true) (hpar : writesPar i = true) (hframe : writesFrame i = true) :
    Framed i s t events := by
  have hout : t.outCnt = s.outCnt + BitVec.ofNat 48 (outBytes events).length := by
    rw [hevents, h]
    exact add_no_outBytes _
  rw [State.OnlyEncodes] at h
  rw [h] at hout ⊢
  exact { Framed.refl i s with
    cur := fun hnot => absurd (hcur.symm.trans hnot) Bool.noConfusion
    dscByte := fun hnot => absurd (hbyte.symm.trans hnot) Bool.noConfusion
    dscPh := fun hnot => absurd (hph.symm.trans hnot) Bool.noConfusion
    par := fun hnot => absurd (hpar.symm.trans hnot) Bool.noConfusion
    frame := fun hnot => absurd (hframe.symm.trans hnot) Bool.noConfusion
    counted := fun _ => hout }

/-! ### The decode datapath (R251) -/

theorem outBytes_map_outByte (out : List Byte) : outBytes (out.map .outByte) = out := by
  rw [outBytes, List.filterMap_map]
  exact List.filterMap_some

/-- `OUT_CNT` moves by the bytes a symbol puts out. -/
theorem takeSymbol_outCnt {s t : State} {d : Digit} {indet : Bool} {out : List Byte}
    (h : s.takeSymbol d indet = .ok (t, out)) : t.outCnt = s.outCnt + BitVec.ofNat 48 out.length := by
  by_cases hdcnt : s.dcnt < 2
  · rw [takeSymbol_of_partial hdcnt, sspTake_partial hdcnt] at h
    cases h
    exact add_no_outBytes _
  · by_cases hcwcnt : s.cwcnt.toNat + 1 = s.cfg.N
    · rw [takeSymbol_of_codeword hdcnt hcwcnt, sspTake_byte hdcnt] at h
      unfold State.decodeCodeword at h
      split at h
      · cases h
      · next hcorrect =>
        cases h
        obtain ⟨-, rfl, -⟩ | ⟨-, c, -, rfl, -⟩ := rsdCorrect_ok hcorrect <;> rfl
    · rw [takeSymbol_of_byte hdcnt hcwcnt, sspTake_byte hdcnt] at h
      cases h
      exact add_no_outBytes _

/-- What a block leaves when it completes, with what it puts out. -/
theorem decodeBlock_ok_events {s : State} {done : Done} (h : s.decodeBlock = .ok done) :
    ∃ (d : Digit) (indet : Bool) (u : State) (out : List Byte), s.takeSymbol d indet = .ok (u, out) ∧
      done.state = u.consumeBlock ∧ done.events = out.map .outByte := by
  unfold State.decodeBlock at h
  split at h
  · cases h
  · split at h
    · cases h
    · next htake =>
      cases h
      exact ⟨_, _, _, _, htake, rfl, rfl⟩

theorem Framed.of_decodeBlock {s : State} {done : Done} (h : s.decodeBlock = .ok done) :
    Framed .decBlock s done.state done.events := by
  obtain ⟨d, indet, u, out, htake, hstate, hevents⟩ := decodeBlock_ok_events h
  have hout : u.outCnt = s.outCnt + BitVec.ofNat 48 (outBytes (out.map .outByte)).length := by
    rw [outBytes_map_outByte]
    exact takeSymbol_outCnt htake
  have honly := takeSymbol_onlyDecodes htake
  rw [State.OnlyDecodes] at honly
  rw [hstate, hevents, honly]
  rw [honly] at hout
  exact { Framed.refl .decBlock s with
    cur := nofun, digits := nofun, cwbuf := nofun, cwcnt := nofun, cwidx := nofun, rsdBuf := nofun, rsdCnt := nofun
    rsdOk := nofun, frameValid := nofun, outCnt := nofun, counted := fun _ => hout }

/-! ### Every command -/

/-- When a command completes it has written nothing it is not listed for. -/
def KeepsFrame (i : Instr) (s : State) : Except Stop Done → Prop := Ensures fun d => Framed i s d.state d.events

theorem KeepsFrame.of_result {i : Instr} {s : State} {e : EncodeRun} (h : Framed i s e.state e.events) :
    KeepsFrame i s (.ok e.result) := Ensures.of_ok h

theorem Framed.of_encByte (s : State) (b : Byte) :
    Framed (.encByte b) s ((EncodeRun.mk s []).takeByte b).state ((EncodeRun.mk s []).takeByte b).events :=
  .of_onlyEncodes (takeByte_onlyEncodes (EncodeRun.mk s []) b) (outBytes_takeByte (EncodeRun.mk s []) b)
    rfl rfl rfl rfl rfl

/-- The run of `ENC.END`. -/
def EncodeRun.finished (e : EncodeRun) (count : Nat) : EncodeRun := (e.padChunk count).flush.close

theorem finished_onlyEncodes (e : EncodeRun) (count : Nat) : e.state.OnlyEncodes (e.finished count).state :=
  ((padChunk_onlyEncodes count e).trans (flush_onlyEncodes _)).trans (close_onlyEncodes _)

theorem outBytes_finished (e : EncodeRun) (count : Nat) : outBytes (e.finished count).events = outBytes e.events :=
  (outBytes_flush (e.padChunk count)).trans (outBytes_padChunk e count)

theorem Framed.of_encEnd (s : State) (count : Nat) :
    Framed .encEnd s ((EncodeRun.mk s []).finished count).state ((EncodeRun.mk s []).finished count).events :=
  .of_onlyEncodes (finished_onlyEncodes (EncodeRun.mk s []) count) (outBytes_finished (EncodeRun.mk s []) count)
    rfl rfl rfl rfl rfl

theorem Framed.of_sspPush (s : State) (indet : BitVec 1) (d : Digit) :
    Framed (.sspPush indet d) s (s.sspTake d (decide (indet = 1))).1 [] := by
  by_cases hdcnt : s.dcnt < 2
  · rw [sspTake_partial hdcnt]
    exact { Framed.refl (.sspPush indet d) s with digits := nofun, cwcnt := nofun }
  · rw [sspTake_byte hdcnt]
    exact { Framed.refl (.sspPush indet d) s with digits := nofun, cwbuf := nofun, cwcnt := nofun }

open Ensures in
theorem exec_keepsFrame {i : Instr} (hi : runsWhenFaulted i = false) (s : State) :
    ∃ body, exec i s = command s body ∧ KeepsFrame i s body := by
  have same := Framed.refl i s
  cases i with
  | sysReset | csrr _ => cases hi
  | sysAbortSink | sysAbortSource => exact ⟨_, rfl, of_raised _ _⟩
  | aceColorof _ | bccScore _ | bccSnap _ | bccThresh _ | flgBlkcnt | dscExpand _ => exact ⟨_, rfl, of_ok same⟩
  | sspCwrd _ | decEos => exact ⟨_, rfl, of_guard (of_ok same)⟩
  | rsePar _ | rsdRead _ | rsdSynd _ => exact ⟨_, rfl, of_guard (of_guard (of_ok same))⟩
  | bccClsnc _ | bccClsth _ | bccClassify _ | flgBlkorg _ => exact ⟨_, rfl, of_onBlock (of_ok same)⟩
  | acdDigitof c =>
    refine ⟨_, rfl, ?_⟩
    cases digitOf (colorOfWord c) with
    | none => exact of_raised _ _
    | some d => exact of_ok same
  | csrwGeomW v =>
    exact ⟨_, rfl, of_ok { same with cur := nofun, geomW := fun h => absurd ⟨v, rfl⟩ h, frameValid := nofun }⟩
  | csrwGeomH v =>
    exact ⟨_, rfl, of_ok { same with cur := nofun, geomH := fun h => absurd ⟨v, rfl⟩ h, frameValid := nofun }⟩
  | csrwGeomB v =>
    exact ⟨_, rfl, of_ok { same with cur := nofun, geomB := fun h => absurd (.inr ⟨v, rfl⟩) h, frameValid := nofun }⟩
  | csrwClsCtrl v => exact ⟨_, rfl, of_ok { same with clsCtrl := fun h => absurd ⟨v, rfl⟩ h }⟩
  | csrwTgtLen v => exact ⟨_, rfl, of_ok { same with length := nofun }⟩
  | flgRescale =>
    exact ⟨_, rfl, of_guard (of_ok { same with
      cur := nofun, geomB := fun h => absurd (.inl rfl) h, frameValid := nofun })⟩
  | flgCurrst => exact ⟨_, rfl, of_ok { same with cur := nofun }⟩
  | flgCurnext => exact ⟨_, rfl, of_guard (of_ok { same with cur := nofun })⟩
  | dscLoad _ => exact ⟨_, rfl, of_guard (of_ok { same with dscByte := nofun, dscPh := nofun })⟩
  | dscNext => exact ⟨_, rfl, of_guard (of_ok { same with dscPh := nofun })⟩
  | rseStart => exact ⟨_, rfl, of_ok { same with par := nofun }⟩
  | rseByte _ => exact ⟨_, rfl, of_guard (of_ok { same with par := nofun })⟩
  | rsdStart => exact ⟨_, rfl, of_ok { same with rsdCnt := nofun, rsdOk := nofun }⟩
  | rsdByte _ => exact ⟨_, rfl, of_guard (of_ok { same with rsdBuf := nofun, rsdCnt := nofun, rsdOk := nofun })⟩
  | rsdDecode f =>
    refine ⟨_, rfl, of_guard ?_⟩
    cases hcorrect : s.rsdCorrect (decide (f = 1)) with
    | error e => exact of_error e
    | ok corrected =>
      obtain ⟨-, ht, -⟩ | ⟨-, c, -, ht, -⟩ := rsdCorrect_ok hcorrect
      all_goals
        refine of_ok ?_
        rw [ht]
        exact { same with rsdBuf := nofun, rsdOk := nofun }
  | sspStart => exact ⟨_, rfl, of_ok { same with digits := nofun, cwcnt := nofun, cwidx := nofun }⟩
  | sspPush indet d =>
    exact ⟨_, rfl, of_guard (of_ok (.of_sspPush s indet d))⟩
  | sspCwpop => exact ⟨_, rfl, of_guard (of_ok { same with cwcnt := nofun, cwidx := nofun })⟩
  | encStart =>
    exact ⟨_, rfl, of_guard (of_ok { same with
      cur := nofun, dscByte := nofun, dscPh := nofun, par := nofun, frame := nofun })⟩
  | encByte b =>
    exact ⟨_, rfl, of_encodeReady (of_ite (of_error _) (KeepsFrame.of_result (.of_encByte s b)))⟩
  | encEnd =>
    exact ⟨_, rfl, of_encodeReady (of_ite (of_error _) (KeepsFrame.of_result (.of_encEnd s _)))⟩
  | decStart =>
    exact ⟨_, rfl, of_guard (of_guard (of_ok { same with
      cur := nofun, digits := nofun, cwcnt := nofun, cwidx := nofun, rsdCnt := nofun, rsdOk := nofun
      outCnt := nofun, counted := fun h => absurd rfl h, frameValid := nofun }))⟩
  | decFrame => exact ⟨_, rfl, of_guard (of_guard (of_ok { same with frameValid := nofun }))⟩
  | decBlock =>
    exact ⟨_, rfl, of_guard (of_ite (of_ok same) (of_guard (of_ite (of_error _) fun _ => .of_decodeBlock)))⟩

/-- Every command but `SYS.RESET`, with the response it gives. -/
theorem exec_framed {i : Instr} {s t : State} (hi : i ≠ .sysReset) (h : exec i s = .next t) :
    ∃ r, t.response = some r ∧ Framed i s t r.events := by
  cases hruns : runsWhenFaulted i with
  | true =>
    obtain rfl | ⟨n, rfl⟩ := runsWhenFaulted_eq_true hruns
    · exact absurd rfl hi
    · cases h
      exact ⟨_, rfl, { Framed.refl _ s with }⟩
  | false =>
    obtain ⟨body, hexec, hframe⟩ := exec_keepsFrame hruns s
    obtain ⟨-, rfl⟩ | ⟨-, d, hd, rfl⟩ | ⟨-, k, info, -, rfl⟩ := command_next (hexec ▸ h)
    · exact ⟨_, rfl, { Framed.refl i s with }⟩
    · exact ⟨_, rfl, { hframe d hd with }⟩
    · exact ⟨_, rfl, { Framed.refl i s with }⟩

/-! ### The obligations -/

theorem writes_of_ne {p : Bool} {α : Type} {a b : α} (h : p = false → a = b) (hne : a ≠ b) : p = true :=
  Bool.not_eq_false _ ▸ mt h hne

theorem writes_of_ne_or_ne {p : Bool} {α β : Type} {a b : α} {c d : β} (h : p = false → a = b ∧ c = d)
    (hne : a ≠ b ∨ c ≠ d) : p = true := by
  refine Bool.not_eq_false _ ▸ fun hp => ?_
  obtain ⟨hab, hcd⟩ := h hp
  exact hne.elim (absurd hab) (absurd hcd)

/-- Settles O14, register by register. -/
theorem onlyListedCommandsWriteRegisters : Obligations.OnlyListedCommandsWriteRegisters := by
  intro i s t hi h
  obtain ⟨r, -, hf⟩ := exec_framed hi h
  exact ⟨writes_of_ne hf.cur, writes_of_ne hf.dscByte, writes_of_ne hf.dscPh, writes_of_ne_or_ne hf.digits,
    writes_of_ne hf.cwbuf, writes_of_ne_or_ne hf.cwcnt, writes_of_ne hf.cwidx, writes_of_ne_or_ne hf.par,
    writes_of_ne hf.rsdBuf, writes_of_ne hf.rsdCnt, writes_of_ne hf.rsdOk,
    writes_of_ne hf.outCnt, writes_of_ne hf.frameValid,
    writes_of_ne_or_ne hf.length, not_imp_comm.mp hf.geomW, not_imp_comm.mp hf.geomH, not_imp_comm.mp hf.geomB,
    not_imp_comm.mp hf.clsCtrl, hf.cfg, hf.frameEpoch, hf.inbox⟩

/-- Settles O15. -/
theorem outputCounterCountsOutBytes : Obligations.OutputCounterCountsOutBytes := by
  refine ⟨fun i s t r hi hstart h hr => ?_, fun s t h hfault => ?_⟩
  · obtain ⟨r', hr', hf⟩ := exec_framed hi h
    obtain rfl := Option.some.inj (hr.symm.trans hr')
    exact hf.counted hstart
  · change execDecStart s = _ at h
    by_cases hs : s.fault = none
    · by_cases hcnt : s.cnt = 0
      · cases (exec_decStart_of_no_grid hs hcnt).symm.trans h
        cases hfault
      · by_cases hlen : s.lenSet = false
        · cases (exec_decStart_of_no_length hs (Nat.pos_of_ne_zero hcnt) hlen).symm.trans h
          cases hfault
        · cases (exec_decStart_of_length hs (Nat.pos_of_ne_zero hcnt) (Bool.not_eq_false _ ▸ hlen)).symm.trans h
          rfl
    · cases (exec_of_faulted (i := .decStart) rfl hs).symm.trans h
      exact absurd hfault hs

/-! ### Every word is answered (R16) -/

/-- A presented word takes nothing from the inbox. -/
theorem inbox_of_present {w : Word} {s t : State} (h : present w s = .next t) : t.inbox = s.inbox := by
  obtain ⟨i, -, hpresent⟩ | ⟨e, -, hpresent⟩ := present_cases w s
  · rw [hpresent] at h
    by_cases hi : i = .sysReset
    · subst hi
      rw [exec_sysReset] at h
      cases h
      rfl
    · obtain ⟨r, -, hf⟩ := exec_framed hi h
      exact hf.inbox
  · rw [hpresent] at h
    obtain ⟨-, rfl⟩ | ⟨-, d, hd, -⟩ | ⟨-, k, info, -, rfl⟩ := command_next h
    · rfl
    · cases hd
    · rfl

/-- Settles O11. -/
theorem everyCommandIsAnswered : Obligations.EveryCommandIsAnswered := by
  intro s w rest h hinbox
  obtain ⟨t, r, hpresent, hr, -⟩ := present_of_inv w (h.taken rest)
  exact ⟨t, r, (step_command hinbox).trans hpresent, inbox_of_present hpresent, hr⟩

/-! ### The bytes of FRAME (R65) -/

/-- A command leaves every byte beyond the addressable range of `s` as it was. -/
def KeepsHigh (s : State) : Except Stop Done → Prop :=
  Ensures fun d => ∀ a, s.frameBytes ≤ a → d.state.readByte a = s.readByte a

theorem flush_readByte_of_le (e : EncodeRun) {a : Nat} (ha : e.state.frameBytes ≤ a) :
    e.flush.state.readByte a = e.state.readByte a := by
  unfold EncodeRun.flush
  split
  · rfl
  · exact (readByte_blankFrame e.state a).trans (if_neg ha.not_gt)

theorem KeepsHigh.of_result {s : State} {e : EncodeRun}
    (h : ∀ a, s.frameBytes ≤ a → e.state.readByte a = s.readByte a) : KeepsHigh s (.ok e.result) := Ensures.of_ok h

theorem takeByte_readByte_of_le {s : State} (hcur : s.cur.toNat < s.cnt) (b : Byte) {a : Nat} (ha : s.frameBytes ≤ a) :
    ((EncodeRun.mk s []).takeByte b).state.readByte a = s.readByte a := by
  obtain ⟨k, hpainted⟩ := (Painted.start (e := ⟨s, []⟩)).exists_takeByte b
  exact hpainted.readByte_of_le hcur ha

theorem finished_readByte_of_le {s : State} (hcur : s.cur.toNat < s.cnt) (count : Nat) {a : Nat}
    (ha : s.frameBytes ≤ a) : ((EncodeRun.mk s []).finished count).state.readByte a = s.readByte a := by
  obtain ⟨k, hpainted⟩ := (Painted.start (e := ⟨s, []⟩)).exists_padChunk count
  rw [← hpainted.readByte_of_le hcur ha]
  exact flush_readByte_of_le _ (hpainted.frameBytes_eq.trans_le ha)

open Ensures in
/-- The three commands that write `FRAME` write inside the addressable range (R65). -/
theorem exec_readByte_of_le {i : Instr} (hi : writesFrame i = true) {s : State} (hcur : s.cur.toNat < s.cnt) :
    ∃ body, exec i s = command s body ∧ KeepsHigh s body := by
  cases i with
  | encStart => exact ⟨_, rfl, of_guard (of_ok fun a ha => (readByte_encodeStart s a).trans (if_neg ha.not_gt))⟩
  | encByte b =>
    exact ⟨_, rfl, of_encodeReady (of_ite (of_error _) (KeepsHigh.of_result fun _ => takeByte_readByte_of_le hcur b))⟩
  | encEnd =>
    exact ⟨_, rfl, of_encodeReady (of_ite (of_error _)
      (KeepsHigh.of_result fun _ => finished_readByte_of_le hcur _))⟩
  | _ => cases hi

/-- A command that does not write `FRAME` leaves every byte as it was. -/
theorem readByte_of_not_writesFrame {i : Instr} {s t : State} (hi : writesFrame i = false) (h : exec i s = .next t)
    (a : Nat) : t.readByte a = s.readByte a := by
  by_cases hreset : i = .sysReset
  · subst hreset
    rw [exec_sysReset] at h
    cases h
    rfl
  · obtain ⟨r, -, hf⟩ := exec_framed hreset h
    rw [readByte_eq, readByte_eq, hf.frame hi, hf.frameEpoch]

/-- Settles O13. -/
theorem onlyEncodeCommandsWriteFrame : Obligations.OnlyEncodeCommandsWriteFrame := by
  refine fun i s t h => ⟨fun hi => readByte_of_not_writesFrame hi h, fun _ hcur a ha => ?_⟩
  cases hi : writesFrame i with
  | false => exact readByte_of_not_writesFrame hi h a
  | true =>
    obtain ⟨body, hexec, hhigh⟩ := exec_readByte_of_le hi hcur
    obtain ⟨-, rfl⟩ | ⟨-, d, hd, rfl⟩ | ⟨-, k, info, -, rfl⟩ := command_next (hexec ▸ h)
    · rfl
    · exact hhigh d hd a ha
    · rfl

end Sys2Proof.Machine
end

section
/-!
The code of spec/43_reed_solomon.md R165 to R168: polynomials evaluated at points, the roots of the generator, the
distance of codewords, and `rs_encode` as the only codeword that begins with its message. A block of one colour (R146)
stands at the end.
-/

namespace Sys2Proof.Machine

/-! ### Polynomials at points (R165) -/

theorem foldl_eq_polyEval (c : List Byte) (x acc : Byte) :
    c.foldl (fun acc v => gfAdd (gfMul acc x) v) acc = gfAdd (gfMul acc (gfPow x c.length)) (polyEval c x) := by
  induction c generalizing acc with
  | nil => exact ((gfAdd_zero _).trans (gfMul_one acc)).symm
  | cons v c ih =>
    have hfirst : polyEval (v :: c) x = gfAdd (gfMul v (gfPow x c.length)) (polyEval c x) := by
      rw [polyEval, List.foldl_cons, zero_gfMul, zero_gfAdd, ih]
    rw [List.foldl_cons, ih, hfirst, List.length_cons, gfMul_add_left, gfAdd_assoc, gfPow_succ, gfMul_assoc,
      gfMul_comm x]

theorem polyEval_append (a b : List Byte) (x : Byte) :
    polyEval (a ++ b) x = gfAdd (gfMul (polyEval a x) (gfPow x b.length)) (polyEval b x) := by
  rw [polyEval, List.foldl_append, foldl_eq_polyEval b]
  rfl

theorem polyEval_cons (v : Byte) (c : List Byte) (x : Byte) :
    polyEval (v :: c) x = gfAdd (gfMul v (gfPow x c.length)) (polyEval c x) := by
  rw [polyEval, List.foldl_cons, zero_gfMul, zero_gfAdd, foldl_eq_polyEval]

theorem polyEval_append_singleton (c : List Byte) (v x : Byte) :
    polyEval (c ++ [v]) x = gfAdd (gfMul (polyEval c x) x) v := by
  rw [polyEval, List.foldl_append]
  rfl

theorem polyEval_zipWith_gfAdd {a b : List Byte} (h : a.length = b.length) (x : Byte) :
    polyEval (List.zipWith gfAdd a b) x = gfAdd (polyEval a x) (polyEval b x) := by
  induction a generalizing b with
  | nil =>
    obtain rfl := List.length_eq_zero_iff.mp h.symm
    exact (gfAdd_self 0).symm
  | cons v a ih =>
    obtain ⟨w, b, rfl⟩ := List.exists_cons_of_length_eq_add_one h.symm
    have hlen : a.length = b.length := Nat.succ_inj.mp h
    rw [List.zipWith_cons_cons, polyEval_cons, polyEval_cons, polyEval_cons, ih hlen, List.length_zipWith, hlen,
      Nat.min_self, gfMul_add_left]
    simp only [gfAdd_assoc, gfAdd_left_comm]

theorem polyEval_map_gfMul (k : Byte) (c : List Byte) (x : Byte) :
    polyEval (c.map (gfMul k)) x = gfMul k (polyEval c x) := by
  induction c with
  | nil => exact (gfMul_zero k).symm
  | cons v c ih => rw [List.map_cons, polyEval_cons, polyEval_cons, ih, List.length_map, gfMul_add_right, gfMul_assoc]

theorem polyEval_polyMulLinear (c : List Byte) (a x : Byte) :
    polyEval (polyMulLinear c a) x = gfMul (gfAdd x a) (polyEval c x) := by
  rw [polyMulLinear, polyEval_zipWith_gfAdd (by simp), polyEval_append_singleton, polyEval_cons, polyEval_map_gfMul,
    zero_gfMul, zero_gfAdd, gfAdd_zero, gfMul_add_left, gfMul_comm x]

/-! ### The generator (R166) -/

theorem generator_succ (P : Nat) : generator (P + 1) = polyMulLinear (generator P) (gfPow 0x02 P) := by
  have hfcr : Config.fcr + P = P := Nat.zero_add P
  rw [generator, List.range_succ, List.foldl_append, List.foldl_cons, hfcr]
  rfl

theorem polyEval_generator {P j : Nat} (hj : j < P) : polyEval (generator P) (gfPow 0x02 j) = 0 := by
  induction P with
  | zero => cases hj
  | succ P ih =>
    rw [generator_succ, polyEval_polyMulLinear]
    rcases Nat.lt_succ_iff_lt_or_eq.mp hj with hlt | rfl
    · rw [ih hlt, gfMul_zero]
    · rw [gfAdd_self, zero_gfMul]

theorem head?_polyMulLinear {c : List Byte} (h : c.head? = some 1) (a : Byte) :
    (polyMulLinear c a).head? = some 1 := by
  cases c with
  | nil => cases h
  | cons v c =>
    obtain rfl : v = 1 := Option.some.inj h
    rfl

theorem head?_generator (P : Nat) : (generator P).head? = some 1 := by
  induction P with
  | zero => rfl
  | succ P ih =>
    rw [generator_succ]
    exact head?_polyMulLinear ih _

/-- The generator's leading 1 apart, at one of its roots. -/
theorem polyEval_tail_generator {P j : Nat} (hj : j < P) :
    polyEval (generator P).tail (gfPow 0x02 j) = gfPow (gfPow 0x02 j) P := by
  have hsplit : generator P = 1 :: (generator P).tail := (List.cons_head?_tail (head?_generator P)).symm
  have hroot := polyEval_generator hj
  rw [hsplit, polyEval_cons, List.length_tail, length_generator, one_gfMul, gfAdd_eq_zero_iff] at hroot
  exact hroot.symm

/-! ### Syndromes and codewords (R167) -/

theorem syndrome_eq_polyEval (r : List Byte) (j : Nat) : syndrome r j = polyEval r (gfPow 0x02 j) :=
  congrArg (fun k => polyEval r (gfPow 0x02 k)) (Nat.zero_add j)

theorem locators_eq_map_range (n : Nat) : locators n = (List.range n).map fun i => gfPow 0x02 (n - 1 - i) := by
  induction n with
  | zero => rfl
  | succ n ih =>
    rw [locators, ih, List.range_succ_eq_map, List.map_cons, List.map_map]
    refine congrArg _ (List.map_congr_left fun i _ => congrArg _ ?_)
    simp only [Nat.add_sub_cancel, Nat.succ_eq_add_one]
    omega

/-- The sum of R167. -/
theorem syndrome_eq_gfSum (r : List Byte) (j : Nat) :
    syndrome r j = gfSum ((List.range r.length).map fun i =>
      gfMul (r.getD i 0) (gfPow 0x02 (j * (r.length - 1 - i)))) := by
  rw [syndrome_eq_powerSum, powerSum, scaled]
  refine congrArg gfSum (List.ext_getElem (by simp) fun i hi _ => ?_)
  have hir : i < r.length := by simpa using hi
  rw [List.getElem_zipWith, List.getElem_map, List.getElem_range, List.getD_eq_getElem _ _ hir,
    List.getElem_of_eq (locators_eq_map_range r.length), List.getElem_map, List.getElem_range, Nat.mul_comm, gfPow_mul]

theorem isCodeword_zipWith_gfAdd {P : Nat} {a b : List Byte} (hlen : a.length = b.length)
    (ha : isCodeword P a = true) (hb : isCodeword P b = true) : isCodeword P (List.zipWith gfAdd a b) = true := by
  rw [isCodeword_iff_syndrome] at ha hb ⊢
  intro j hj
  rw [syndrome_eq_polyEval, polyEval_zipWith_gfAdd hlen, ← syndrome_eq_polyEval, ← syndrome_eq_polyEval, ha j hj,
    hb j hj, gfAdd_self]

/-- Two codewords nearer than `P + 1` are one: their sum is a codeword of small weight. -/
theorem eq_of_isCodeword_of_hammingDist {P : Nat} {a b : List Byte} (hlen : a.length = b.length)
    (hshort : a.length ≤ 255) (ha : isCodeword P a = true) (hb : isCodeword P b = true)
    (hdist : hammingDist a b ≤ P) : a = b := by
  have hsum := isCodeword_zipWith_gfAdd hlen ha hb
  have hsumLen : (List.zipWith gfAdd a b).length = a.length := by simp [hlen]
  rw [isCodeword_iff_syndrome] at hsum
  rw [hammingDist_eq_weight] at hdist
  refine eq_of_weight_zipWith_eq_zero hlen (weight_eq_zero_of_powerSum (nodup_locators hshort) ?_ hdist fun j hj => ?_)
  · rw [length_locators, hsumLen]
  · rw [← hsumLen, ← syndrome_eq_powerSum, hsum j hj]

/-- Settles O34. -/
theorem codewordsAreFarApart : Obligations.CodewordsAreFarApart :=
  ⟨fun P => ⟨length_generator P, head?_generator P, fun _ => polyEval_generator⟩, syndrome_eq_gfSum,
    fun _ _ => isCodeword_iff_syndrome, fun _ => rfl, fun _ _ _ => isCodeword_zipWith_gfAdd,
    fun _ _ _ hlen hshort ha hb hne => Nat.lt_of_not_le fun hdist =>
      hne (eq_of_isCodeword_of_hammingDist hlen hshort ha hb hdist)⟩

/-! ### Encoding (R168, R169) -/

/-- One step of the shift register, at a root of the generator: the register is `x^P` times what was sent. -/
theorem polyEval_lfsrStep {P j : Nat} (hj : j < P) {par : List Byte} (hpar : par.length = P) (b : Byte) :
    polyEval (lfsrStep P par b) (gfPow 0x02 j) =
      gfAdd (gfMul (polyEval par (gfPow 0x02 j)) (gfPow 0x02 j)) (gfMul b (gfPow (gfPow 0x02 j) P)) := by
  obtain ⟨p, par, rfl⟩ := List.exists_cons_of_length_pos (hpar ▸ Nat.zero_lt_of_lt hj)
  have hlen : par.length + 1 = P := hpar
  have hstep : lfsrStep P (p :: par) b =
      List.zipWith gfAdd (par ++ [0]) ((generator P).tail.map (gfMul (gfAdd b p))) := by
    rw [List.zipWith_map_right]
    rfl
  rw [hstep, polyEval_zipWith_gfAdd (by simp [hlen]), polyEval_append_singleton, polyEval_map_gfMul,
    polyEval_tail_generator hj, polyEval_cons, gfAdd_zero, gfMul_add_left, gfMul_add_left, gfMul_assoc, ← gfPow_succ,
    hlen]
  simp only [gfAdd_assoc, gfAdd_comm]

theorem polyEval_replicate_zero (n : Nat) (x : Byte) : polyEval (List.replicate n 0) x = 0 := by
  induction n with
  | zero => rfl
  | succ n ih => rw [List.replicate_succ, polyEval_cons, zero_gfMul, ih, gfAdd_self]

theorem polyEval_foldl_lfsrStep {P j : Nat} (hj : j < P) (m : List Byte) :
    polyEval (m.foldl (lfsrStep P) (List.replicate P 0)) (gfPow 0x02 j) =
      gfMul (polyEval m (gfPow 0x02 j)) (gfPow (gfPow 0x02 j) P) := by
  induction m using List.reverseRecOn with
  | nil => exact (polyEval_replicate_zero P _).trans (zero_gfMul _).symm
  | append_singleton m b ih =>
    have hlen := length_foldl_lfsrStep m (List.length_replicate (n := P) (a := (0 : Byte)))
    rw [List.foldl_append, List.foldl_cons, List.foldl_nil, polyEval_lfsrStep hj hlen, ih, polyEval_append_singleton,
      gfMul_add_left, gfMul_assoc, gfMul_assoc, gfMul_comm (gfPow 0x02 j)]

theorem isCodeword_rsEncode (P : Nat) (m : List Byte) : isCodeword P (rsEncode P m) = true := by
  rw [isCodeword_iff_syndrome]
  intro j hj
  rw [syndrome_eq_polyEval, rsEncode_eq_foldl, polyEval_append, polyEval_foldl_lfsrStep hj,
    length_foldl_lfsrStep m List.length_replicate, gfAdd_self]

/-- Sequences of one length with the same first `n` bytes differ in the bytes after them at most. -/
theorem hammingDist_append_left (m a b : List Byte) : hammingDist (m ++ a) (m ++ b) ≤ b.length := by
  rw [hammingDist, List.zip_append rfl, List.filter_append, List.length_append]
  have hsame : (List.zip m m).filter (fun q => decide (q.1 ≠ q.2)) = [] := by
    have h := hammingDist_self m
    rwa [hammingDist, List.length_eq_zero_iff] at h
  rw [hsame, List.length_nil, Nat.zero_add]
  exact (List.length_filter_le ..).trans (by simp)

/-- Settles O37: two codewords that begin with the message are too near to be different. -/
theorem encodingIsSystematicAndUnique : Obligations.EncodingIsSystematicAndUnique := by
  intro P m hlen
  refine ⟨length_rsEncode P m, take_rsEncode P m, isCodeword_rsEncode P m, fun c hc htake hcode => ?_⟩
  refine eq_of_isCodeword_of_hammingDist (hc.trans (length_rsEncode P m).symm) (hc.trans_le hlen) hcode
    (isCodeword_rsEncode P m) ?_
  have hsplit : c = m ++ c.drop m.length := (List.take_append_drop m.length c).symm.trans (congrArg (· ++ _) htake)
  rw [hsplit, rsEncode_eq_foldl]
  exact (hammingDist_append_left ..).trans (length_foldl_lfsrStep m List.length_replicate).le

/-! ### A block of one colour (R146) -/

/-- Settles O30. -/
theorem undistortedBlocksResolve : Obligations.UndistortedBlocksResolve := by
  refine fun s i c hi hc h => ⟨classifyNearest_of_uniform hi hc h, fun hB hlo hhi hwf => ?_⟩
  obtain ⟨-, -, -, hle, -⟩ := hwf
  exact classifyThreshold_of_uniform hi hc h hB hlo hle hhi

end Sys2Proof.Machine
end

section
/-!
The packer undoes the expansion into digits (spec/44_digit_converter_and_packer.md R224).
-/

namespace Sys2Proof.Machine

section

variable {s : State}

/-- A push with room for it goes on with the packer one digit further. -/
theorem session_sspPush (hfault : s.fault = none) (hfull : s.cwcnt.toNat ≠ s.cfg.N) (d : Digit) (is : List Instr) :
    ∃ rsp, session (.sspPush 0 d :: is) s = session is ((s.sspTake d false).1.answer rsp []) :=
  ⟨_, session_cons_of_answer (exec_sspPush_of_not_full hfault 0 d hfull rfl) is⟩

/-- The response before it plays no part. -/
theorem session_sspPush_answer (hfault : s.fault = none) (hfull : s.cwcnt.toNat ≠ s.cfg.N) (rsp : Word48) (d : Digit)
    (is : List Instr) : ∃ rsp', session (.sspPush 0 d :: is) (s.answer rsp []) =
      session is ((s.sspTake d false).1.answer rsp' []) := by
  obtain ⟨rsp', h⟩ := session_sspPush (s := s.answer rsp []) hfault hfull d is
  refine ⟨rsp', h.trans (congrArg (session is) ?_)⟩
  by_cases hdcnt : s.dcnt < 2
  · rw [sspTake_state_partial hdcnt, sspTake_state_partial (t := s.answer rsp []) hdcnt]
    rfl
  · rw [sspTake_state_byte hdcnt, sspTake_state_byte (t := s.answer rsp []) hdcnt]
    rfl

/-- The packer with digits of an open byte in it. -/
def State.holding (s : State) (dacc : BitVec 6) (dcnt : BitVec 2) : State := { s with dacc := dacc, dcnt := dcnt }

/-- The three digits of a byte through the accumulator. -/
theorem accumulate_three (b : Byte) :
    (accumulate ((accumulate ((accumulate 0 (digitsOf b).1).setWidth 6) (digitsOf b).2.1).setWidth 6)
      (digitsOf b).2.2).setWidth 8 = b := by
  have hfirst := toNat_digitsOf_fst b
  have hsecond := toNat_digitsOf_snd_fst b
  have hb := b.isLt
  refine accumulate_digitsOf ?_
  rw [BitVec.toNat_setWidth, toNat_accumulate, BitVec.toNat_setWidth, toNat_accumulate]
  simp only [digitsValue, List.foldl_cons, List.foldl_nil]
  omega

/-- The digits of a byte put the byte behind those packed before. -/
theorem session_pushByte (hfault : s.fault = none) (hfull : s.cwcnt.toNat ≠ s.cfg.N) (hdacc : s.dacc = 0)
    (hdcnt : s.dcnt = 0) (b : Byte) (is : List Instr) :
    ∃ rsp, session (.sspPush 0 (digitsOf b).1 :: .sspPush 0 (digitsOf b).2.1 :: .sspPush 0 (digitsOf b).2.2 :: is) s =
      session is ((s.packed b).answer rsp []) := by
  have hpush₁ : (s.sspTake (digitsOf b).1 false).1 = s.holding ((accumulate 0 (digitsOf b).1).setWidth 6) 1 := by
    rw [sspTake_state_partial (by rw [hdcnt]; decide), hdacc, hdcnt]
    rfl
  have hpush₂ (dacc : BitVec 6) (d : Digit) :
      ((s.holding dacc 1).sspTake d false).1 = s.holding ((accumulate dacc d).setWidth 6) 2 :=
    sspTake_state_partial (t := s.holding dacc 1) (by decide : (1 : BitVec 2) < 2) d
  have hpush₃ (dacc : BitVec 6) (d : Digit) :
      ((s.holding dacc 2).sspTake d false).1 = s.packed ((accumulate dacc d).setWidth 8) :=
    sspTake_state_byte (t := s.holding dacc 2) (by decide : ¬ (2 : BitVec 2) < 2) d
  obtain ⟨rsp₁, h₁⟩ := session_sspPush hfault hfull (digitsOf b).1
    (.sspPush 0 (digitsOf b).2.1 :: .sspPush 0 (digitsOf b).2.2 :: is)
  rw [h₁, hpush₁]
  obtain ⟨rsp₂, h₂⟩ := session_sspPush_answer (s := s.holding _ 1) hfault hfull rsp₁ (digitsOf b).2.1
    (.sspPush 0 (digitsOf b).2.2 :: is)
  rw [h₂, hpush₂]
  obtain ⟨rsp₃, h₃⟩ := session_sspPush_answer (s := s.holding _ 2) hfault hfull rsp₂ (digitsOf b).2.2 is
  rw [h₃, hpush₃, accumulate_three]
  exact ⟨rsp₃, rfl⟩

/-- The digits of bytes that fill the codeword. -/
theorem session_pushBytes (w : List Byte) (hfault : s.fault = none) (hN : s.cfg.N ≤ 255)
    (hbuf : s.cwbuf.length = s.cfg.N) (hlen : s.cwcnt.toNat + w.length = s.cfg.N) (hdacc : s.dacc = 0)
    (hdcnt : s.dcnt = 0) :
    ∃ rsp, session ((digitStream w).map (.sspPush 0)) s = some ({ s with
      cwbuf := s.cwbuf.take s.cwcnt.toNat ++ w, cwcnt := BitVec.ofNat 8 s.cfg.N, response := rsp }, []) := by
  induction w generalizing s with
  | nil =>
    have hfull : s.cwcnt.toNat = s.cfg.N := hlen
    refine ⟨s.response, ?_⟩
    rw [hfull, ← hbuf, List.take_length, List.append_nil, hbuf, ← hfull, BitVec.ofNat_toNat, BitVec.setWidth_eq]
    rfl
  | cons b w ih =>
    rw [List.length_cons] at hlen
    have hcnt : (s.cwcnt + 1).toNat = s.cwcnt.toNat + 1 := toNat_count_add_one (by omega)
    obtain ⟨rsp, hbyte⟩ := session_pushByte hfault (by omega) hdacc hdcnt b ((digitStream w).map (.sspPush 0))
    obtain ⟨rsp', hrest⟩ := ih (s := (s.packed b).answer rsp []) hfault hN (List.length_set.trans hbuf)
      (by change (s.cwcnt + 1).toNat + _ = s.cfg.N; omega) rfl rfl
    refine ⟨rsp', ?_⟩
    rw [digitStream_cons]
    refine hbyte.trans (hrest.trans ?_)
    have htake : ((s.packed b).answer rsp []).cwbuf.take ((s.packed b).answer rsp []).cwcnt.toNat =
        s.cwbuf.take s.cwcnt.toNat ++ [b] := by
      change (s.cwbuf.set s.cwcnt.toNat b).take (s.cwcnt + 1).toNat = _
      rw [hcnt, take_set_succ (by omega)]
    rw [htake, List.append_assoc, List.singleton_append]
    refine congrArg (fun t => some (t, [])) ?_
    rw [State.packed, State.answer]
    simp only [hdacc, hdcnt]

end

/-- Settles O49. -/
theorem packingInvertsTheExpansion : Obligations.PackingInvertsTheExpansion := by
  intro s w hinv hfault hdcnt hcwcnt hcflag hlen
  have hN : s.cfg.N ≤ 255 := hinv.N_le
  have hdacc : s.dacc = 0 := by
    have hlt := hinv.dacc_lt
    rw [hdcnt] at hlt
    exact BitVec.eq_of_toNat_eq (Nat.lt_one_iff.mp hlt)
  obtain ⟨rsp, hsession⟩ := session_pushBytes w hfault hN hinv.cwbuf_length (by rw [hcwcnt, hlen]; exact Nat.zero_add _)
    hdacc hdcnt
  have hfull : (BitVec.ofNat 8 s.cfg.N).toNat = s.cfg.N := Nat.mod_eq_of_lt (by omega)
  refine ⟨_, _, hsession, ?_, hfull, hcflag, exec_sspCwpop_of_full hfault hfull, hdcnt, rfl, rfl, rfl, hfault⟩
  rw [hcwcnt]
  rfl

end Sys2Proof.Machine
end

section
/-!
`ENC.BYTE` and `ENC.END` in every state that admits them (spec/45_datapath.md R243 to R245).
-/

namespace Sys2Proof.Machine

/-! ### The encodings and the faults (R294) -/

theorem encodes_encByte : Encodes 0x91 8 .encByte := fun arg => decode_commandWord 0x91 arg

theorem encodesBare_encEnd : EncodesBare 0x92 .encEnd := fun arg => decode_commandWord 0x92 arg

/-- The state in which a run that is over answers. -/
def EncodeRun.responded (e : EncodeRun) : State := e.state.answer (numField e.events.length) e.events

theorem encodeReady_of_no_grid {s : State} (hcnt : s.cnt = 0) (op : Word48) (body : Except Stop Done) :
    encodeReady s op body = raised .configError op := if_pos hcnt

theorem encodeReady_of_busy {s : State} (hcnt : 0 < s.cnt) (hbusy : s.dscPh ≠ 0 ∨ s.rseCnt.toNat = s.cfg.K)
    (op : Word48) (body : Except Stop Done) : encodeReady s op body = raised .sequenceError op :=
  (if_neg hcnt.ne').trans (if_pos hbusy)

theorem encodeReady_of_ready {s : State} (hcnt : 0 < s.cnt) (hph : s.dscPh = 0) (hK : s.rseCnt.toNat ≠ s.cfg.K)
    (op : Word48) (body : Except Stop Done) : encodeReady s op body = body :=
  (if_neg hcnt.ne').trans (if_neg fun hbusy => hbusy.elim (absurd hph) hK)

section

variable {s : State} (hfault : s.fault = none)
include hfault

theorem exec_encByte_of_no_grid (hcnt : s.cnt = 0) (b : Byte) :
    exec (.encByte b) s = .next (s.takeFault .configError 0x91) := by
  change execEncByte b s = _
  rw [execEncByte, command_of_running hfault, encodeReady_of_no_grid hcnt, finish_raised]

theorem exec_encByte_of_busy (hcnt : 0 < s.cnt) (hbusy : s.dscPh ≠ 0 ∨ s.rseCnt.toNat = s.cfg.K) (b : Byte) :
    exec (.encByte b) s = .next (s.takeFault .sequenceError 0x91) := by
  change execEncByte b s = _
  rw [execEncByte, command_of_running hfault, encodeReady_of_busy hcnt hbusy, finish_raised]

theorem exec_encEnd_of_no_grid (hcnt : s.cnt = 0) : exec .encEnd s = .next (s.takeFault .configError 0x92) := by
  change execEncEnd s = _
  rw [execEncEnd, command_of_running hfault, encodeReady_of_no_grid hcnt, finish_raised]

theorem exec_encEnd_of_busy (hcnt : 0 < s.cnt) (hbusy : s.dscPh ≠ 0 ∨ s.rseCnt.toNat = s.cfg.K) :
    exec .encEnd s = .next (s.takeFault .sequenceError 0x92) := by
  change execEncEnd s = _
  rw [execEncEnd, command_of_running hfault, encodeReady_of_busy hcnt hbusy, finish_raised]

variable (hcur : s.cur.toNat < s.cnt) (hph : s.dscPh = 0) (hK : s.rseCnt.toNat ≠ s.cfg.K)
include hcur hph hK

theorem exec_encByte_of_ready (b : Byte) : exec (.encByte b) s =
    .next ((EncodeRun.mk s []).takeByte b).responded := by
  change execEncByte b s = _
  rw [execEncByte, command_of_running hfault, encodeReady_of_ready (Nat.zero_lt_of_lt hcur) hph hK,
    if_neg hcur.not_ge, finish_result]
  rfl

theorem exec_encEnd_of_ready : exec .encEnd s =
    .next ((EncodeRun.mk s []).finished (s.cfg.K - s.rseCnt.toNat)).responded := by
  change execEncEnd s = _
  rw [execEncEnd, command_of_running hfault, encodeReady_of_ready (Nat.zero_lt_of_lt hcur) hph hK,
    if_neg fun hout => hcur.not_ge hout.2, finish_result]
  rfl

end

/-! ### One byte of a chunk (R244) -/

theorem Inv.rseCnt_lt {s : State} (h : Inv s) (hK : s.rseCnt.toNat ≠ s.cfg.K) : s.rseCnt.toNat < 255 := by
  have hN := h.N_le
  have hle := h.rseCnt_le
  have hNeq := s.cfg.N_eq
  omega

section

variable (e : EncodeRun) (b : Byte)

theorem sendByte_onlyPaints : (e.state.rseTake b).OnlyPaints (e.sendByte b).state :=
  emitByte_onlyPaints ⟨e.state.rseTake b, e.events⟩ b

theorem sendByte_par : (e.sendByte b).state.par = lfsrStep e.state.cfg.P e.state.par b :=
  (sendByte_onlyPaints e b).par_eq

theorem sendByte_rseCnt : (e.sendByte b).state.rseCnt = e.state.rseCnt + 1 := (sendByte_onlyPaints e b).rseCnt_eq

theorem sendByte_cfg : (e.sendByte b).state.cfg = e.state.cfg := (sendByte_onlyPaints e b).onlyEncodes.cfg_eq

theorem sendByte_dscByte : (e.sendByte b).state.dscByte = b := rfl

theorem sendByte_dscPh : (e.sendByte b).state.dscPh = 0 := rfl

end

/-- The converter holds the last byte sent. -/
theorem emitBytes_dscByte (e : EncodeRun) (bytes : List Byte) :
    (bytes.foldl EncodeRun.emitByte e).state.dscByte = bytes.getLastD e.state.dscByte := by
  induction bytes generalizing e with
  | nil => rfl
  | cons x bytes ih =>
    rw [List.foldl_cons, ih, List.getLastD_cons]
    rfl

section

variable (e : EncodeRun)

theorem closeChunk_dscByte : e.closeChunk.state.dscByte = e.state.par.getLastD e.state.dscByte :=
  emitBytes_dscByte e e.state.par

theorem closeChunk_rseCnt : e.closeChunk.state.rseCnt = 0 := rfl

theorem closeChunk_par : e.closeChunk.state.par = List.replicate e.state.cfg.P 0 :=
  congrArg (fun cfg : Params => List.replicate cfg.P 0) (foldl_emitByte_onlyPaints e e.state.par).onlyEncodes.cfg_eq

theorem closeChunk_dscPh {e : EncodeRun} (h : e.state.dscPh = 0) : e.closeChunk.state.dscPh = 0 :=
  emitBytes_dscPh h e.state.par

end

section

variable {e : EncodeRun} (hsmall : e.state.rseCnt.toNat < 255)
include hsmall

theorem takeByte_of_closes (hlast : e.state.rseCnt.toNat + 1 = e.state.cfg.K) (b : Byte) :
    e.takeByte b = (e.sendByte b).closeChunk := by
  rw [takeByte_eq, if_pos]
  rw [sendByte_rseCnt, sendByte_cfg, toNat_count_add_one hsmall, hlast]

theorem takeByte_of_stays_open (hlast : e.state.rseCnt.toNat + 1 ≠ e.state.cfg.K) (b : Byte) :
    e.takeByte b = e.sendByte b := by
  rw [takeByte_eq, if_neg]
  rwa [sendByte_rseCnt, sendByte_cfg, toNat_count_add_one hsmall]

end

/-- The digits that `ENC.BYTE` paints: those of the byte and, after the last of a chunk, those of the parity. -/
theorem painted_takeByte {e : EncodeRun} (hsmall : e.state.rseCnt.toNat < 255)
    (hpar : e.state.par.length = e.state.cfg.P) (b : Byte) :
    Painted e (if e.state.rseCnt.toNat + 1 = e.state.cfg.K then 3 * (1 + e.state.cfg.P) else 3) (e.takeByte b) := by
  have hsend : Painted e 3 (e.sendByte b) := Painted.start.sendByte b
  by_cases hlast : e.state.rseCnt.toNat + 1 = e.state.cfg.K
  · rw [takeByte_of_closes hsmall hlast, if_pos hlast, Nat.mul_add, Nat.mul_one, ← length_lfsrStep hpar b,
      ← sendByte_par]
    exact hsend.closeChunk
  · rw [takeByte_of_stays_open hsmall hlast, if_neg hlast]
    exact hsend

/-- The registers of the encoder and of the converter after a byte (R171, R244). -/
theorem takeByte_registers {e f : EncodeRun} (hsmall : e.state.rseCnt.toNat < 255) {b : Byte} (hf : e.takeByte b = f) :
    f.state.dscPh = 0 ∧
    (e.state.rseCnt.toNat + 1 ≠ e.state.cfg.K → f.state.par = lfsrStep e.state.cfg.P e.state.par b ∧
      f.state.rseCnt = e.state.rseCnt + 1 ∧ f.state.dscByte = b) ∧
    (e.state.rseCnt.toNat + 1 = e.state.cfg.K → f.state.par = List.replicate e.state.cfg.P 0 ∧ f.state.rseCnt = 0 ∧
      f.state.dscByte = (lfsrStep e.state.cfg.P e.state.par b).getLastD b) := by
  by_cases hlast : e.state.rseCnt.toNat + 1 = e.state.cfg.K
  · obtain rfl : (e.sendByte b).closeChunk = f := (takeByte_of_closes hsmall hlast b).symm.trans hf
    refine ⟨closeChunk_dscPh (sendByte_dscPh e b), absurd hlast, fun _ => ⟨?_, closeChunk_rseCnt _, ?_⟩⟩
    · rw [closeChunk_par, sendByte_cfg]
    · rw [closeChunk_dscByte, sendByte_par, sendByte_dscByte]
  · obtain rfl : e.sendByte b = f := (takeByte_of_stays_open hsmall hlast b).symm.trans hf
    exact ⟨sendByte_dscPh e b, fun _ => ⟨sendByte_par e b, sendByte_rseCnt e b, sendByte_dscByte e b⟩,
      fun h => absurd h hlast⟩

/-! ### The response -/

/-- The response that carries the images of a run begun with no events. -/
theorem responded_of_images {e : EncodeRun} {images : List (List Byte)} (h : e.events = images.map .emitFrame) :
    e.responded = { e.state with response := some ⟨0, BitVec.ofNat 48 images.length, images.map .emitFrame⟩ } := by
  rw [EncodeRun.responded, h, List.length_map]
  rfl

/-- What a command of the encode datapath leaves. -/
theorem State.OnlyEncodes.eq_with {s u : State} (h : s.OnlyEncodes u) (hph : u.dscPh = s.dscPh)
    (r : Option Response) :
    { u with response := r } = { s with
      par := u.par, rseCnt := u.rseCnt, dscByte := u.dscByte, cur := u.cur, frame := u.frame, response := r } := by
  rw [State.OnlyEncodes] at h
  rw [h, hph]

/-! ### `ENC.BYTE` (R244) -/

/-- Settles O51. -/
theorem encodeByteAdvancesTheSession : Obligations.EncodeByteAdvancesTheSession := by
  refine ⟨encodes_encByte, fun s b hfault => ⟨fun hcnt => exec_encByte_of_no_grid hfault hcnt b,
    fun hcnt hbusy => exec_encByte_of_busy hfault hcnt hbusy b⟩, fun s b hinv hfault hcnt hph hK => ?_⟩
  have hcur := hinv.cur_lt hcnt
  have hsmall := hinv.rseCnt_lt hK
  have hexec := exec_encByte_of_ready hfault hcur hph hK b
  have hpainted := painted_takeByte (e := ⟨s, []⟩) hsmall hinv.par_length b
  have honly := takeByte_onlyEncodes ⟨s, []⟩ b
  have hregisters := fun f => takeByte_registers (e := ⟨s, []⟩) (f := f) hsmall (b := b)
  generalize (EncodeRun.mk s []).takeByte b = f at hexec hpainted honly hregisters
  obtain ⟨hfph, hopen, hclosed⟩ := hregisters f rfl
  obtain ⟨images, hevents, hlen, hraster⟩ := hpainted.events_eq hcur
  rw [responded_of_images (hevents.trans (List.nil_append _))] at hexec
  exact ⟨_, images, hexec, honly.eq_with (hfph.trans hph.symm) _, hopen, hclosed, hpainted.cur_eq hcur, hlen, hraster,
    fun a ha => hpainted.readByte_of_le hcur ha⟩

end Sys2Proof.Machine
end

section
/-!
The three blocks that a byte paints (spec/45_datapath.md R243), pixel by pixel.
-/

namespace Sys2Proof.Machine

/-- An address of a block's pixels, by the number of the address (R63, R112). -/
theorem inBlock_iff {s : State} {i a k : Nat} (hi : i < s.cnt) :
    InBlock s i a k ↔ s.blockAt a = some i ∧ k = a % 3 := by
  rw [blockAt_eq_some_iff hi, InBlock]
  constructor
  · rintro ⟨hk, ⟨x, y⟩, hq, rfl⟩
    obtain ⟨hx, hy⟩ := (mul_add_eq_iff_div_mod (lt_width_and_lt_height_of_mem_blockPixels hi hq).1).mp rfl
    have hdiv : (s.pixelAddress x y + k) / 3 = y * s.geomW.toNat + x := by
      rw [State.pixelAddress]
      omega
    rw [hdiv, ← hx, ← hy]
    exact ⟨hq, by rw [State.pixelAddress]; omega⟩
  · rintro ⟨hq, rfl⟩
    refine ⟨Nat.mod_lt a (by omega), _, hq, ?_⟩
    rw [State.pixelAddress, Nat.mul_comm (_ / _), Nat.div_add_mod, Nat.div_add_mod]

section

variable {e : EncodeRun}

theorem paintDigit_blockAt (d : Digit) : (e.paintDigit d).state.blockAt = e.state.blockAt :=
  (paintDigit_onlyPaints e d).onlyEncodes.blockAt_eq

theorem paintDigit_cnt (d : Digit) : (e.paintDigit d).state.cnt = e.state.cnt :=
  (paintDigit_onlyPaints e d).onlyEncodes.cnt_eq

/-- A digit that does not complete the frame. -/
theorem paintDigit_inside (h : e.state.cur.toNat + 1 < e.state.cnt) (d : Digit) :
    (e.paintDigit d).state.cur.toNat = e.state.cur.toNat + 1 ∧
    ∀ a, (e.paintDigit d).state.readByte a =
      if e.state.blockAt a = some e.state.cur.toNat then (colorRom d).channel (a % 3) else e.state.readByte a := by
  have hnot : e.state.lastBlock = false := by
    rw [Bool.eq_false_iff, ne_eq, lastBlock_iff]
    exact h.ne
  rw [paintDigit_of_not_last d hnot]
  exact ⟨BitVec.toNat_add_of_lt (h.trans (cnt_lt e.state)), readByte_paintBlock (Nat.lt_of_succ_lt h) (colorRom d)⟩

theorem readByte_converted (s : State) (x : Byte) (a : Nat) : (s.converted x).readByte a = s.readByte a := rfl

/-- A byte that does not complete the frame paints the blocks at the cursor and the two after it. -/
theorem readByte_emitByte (h : e.state.cur.toNat + 3 < e.state.cnt) (x : Byte) (a : Nat) :
    (e.emitByte x).state.readByte a =
      if e.state.blockAt a = some (e.state.cur.toNat + 2) then (colorRom (digitsOf x).2.2).channel (a % 3)
      else if e.state.blockAt a = some (e.state.cur.toNat + 1) then (colorRom (digitsOf x).2.1).channel (a % 3)
      else if e.state.blockAt a = some e.state.cur.toNat then (colorRom (digitsOf x).1).channel (a % 3)
      else e.state.readByte a := by
  obtain ⟨hcur₁, hread₁⟩ := paintDigit_inside (e := e) (by omega) (digitsOf x).1
  obtain ⟨hcur₂, hread₂⟩ := paintDigit_inside (e := e.paintDigit (digitsOf x).1)
    (by rw [hcur₁, paintDigit_cnt]; omega) (digitsOf x).2.1
  obtain ⟨-, hread₃⟩ := paintDigit_inside (e := (e.paintDigit (digitsOf x).1).paintDigit (digitsOf x).2.1)
    (by rw [hcur₂, hcur₁, paintDigit_cnt, paintDigit_cnt]; omega) (digitsOf x).2.2
  rw [emitByte_eq]
  dsimp only
  rw [readByte_converted, hread₃, hread₂, hread₁, hcur₂, hcur₁, paintDigit_blockAt, paintDigit_blockAt]

theorem readByte_sendByte (h : e.state.cur.toNat + 3 < e.state.cnt) (x : Byte) (a : Nat) :
    (e.sendByte x).state.readByte a =
      if e.state.blockAt a = some (e.state.cur.toNat + 2) then (colorRom (digitsOf x).2.2).channel (a % 3)
      else if e.state.blockAt a = some (e.state.cur.toNat + 1) then (colorRom (digitsOf x).2.1).channel (a % 3)
      else if e.state.blockAt a = some e.state.cur.toNat then (colorRom (digitsOf x).1).channel (a % 3)
      else e.state.readByte a :=
  readByte_emitByte (e := ⟨e.state.rseTake x, e.events⟩) h x a

end

/-- Settles O52. -/
theorem encodeBytePaintsThreeBlocks : Obligations.EncodeBytePaintsThreeBlocks := by
  intro s b hinv hfault hph hopen hinside
  have hcnt : 0 < s.cnt := Nat.zero_lt_of_lt hinside
  have hcur : s.cur.toNat < s.cnt := by omega
  have hK : s.rseCnt.toNat ≠ s.cfg.K := by omega
  have hread := readByte_sendByte (e := ⟨s, []⟩) hinside b
  have hexec := exec_encByte_of_ready hfault hcur hph hK b
  have hpainted : Painted ⟨s, []⟩ 3 _ := Painted.start.sendByte b
  have hpar := sendByte_par ⟨s, []⟩ b
  have hcount := sendByte_rseCnt ⟨s, []⟩ b
  have hphase := sendByte_dscPh ⟨s, []⟩ b
  have hbyte := sendByte_dscByte ⟨s, []⟩ b
  rw [takeByte_of_stays_open (hinv.rseCnt_lt hK) hopen.ne] at hexec
  generalize (EncodeRun.mk s []).sendByte b = f at *
  obtain ⟨images, hevents, hlen, -⟩ := hpainted.events_eq hcur
  obtain rfl : images = [] := List.eq_nil_of_length_eq_zero (hlen.trans (Nat.div_eq_of_lt hinside))
  rw [responded_of_images hevents] at hexec
  have hcurEq : f.state.cur = s.cur + 3 := by
    apply BitVec.eq_of_toNat_eq
    rw [hpainted.cur_eq hcur, BitVec.toNat_add_of_lt (hinside.trans (cnt_lt s))]
    exact Nat.mod_eq_of_lt hinside
  refine ⟨_, hexec, ?_, fun a k ha => ?_, fun a k ha => ?_, fun a k ha => ?_, fun a ha => ?_⟩
  · refine (hpainted.onlyEncodes.eq_with (hphase.trans hph.symm) _).trans ?_
    rw [hpar, hcount, hbyte, hcurEq]
    rfl
  · obtain ⟨hblock, rfl⟩ := (inBlock_iff hcur).mp ha
    refine (hread a).trans ?_
    dsimp only
    rw [hblock, if_neg (by simp), if_neg (by simp), if_pos rfl]
  · obtain ⟨hblock, rfl⟩ := (inBlock_iff (by omega)).mp ha
    refine (hread a).trans ?_
    dsimp only
    rw [hblock, if_neg (by simp), if_pos rfl]
  · obtain ⟨hblock, rfl⟩ := (inBlock_iff (by omega)).mp ha
    exact (hread a).trans (if_pos hblock)
  · have hout (j : Nat) (hj : j < 3) : s.blockAt a ≠ some (s.cur.toNat + j) := fun hblock =>
      ha j (a % 3) hj ((inBlock_iff (by omega)).mpr ⟨hblock, rfl⟩)
    refine (hread a).trans ?_
    dsimp only
    rw [if_neg (hout 2 (by omega)), if_neg (hout 1 (by omega))]
    exact if_neg (hout 0 (by omega))

end Sys2Proof.Machine
end

section
/-!
`ENC.END` and what it leaves (spec/45_datapath.md R245, spec/60_exceptions.md R314).
-/

namespace Sys2Proof.Machine

/-! ### The open chunk padded -/

/-- The padding of an open chunk sends the rest of its codeword and clears the register. -/
theorem padChunk_closes {e : EncodeRun} {n : Nat} (hpar : e.state.par.length = e.state.cfg.P)
    (hopen : e.state.rseCnt ≠ 0) (hn : 0 < n) (hK : e.state.rseCnt.toNat + n = e.state.cfg.K)
    (hsmall : e.state.cfg.K ≤ 255) :
    Painted e (3 * (n + e.state.cfg.P)) (e.padChunk n) ∧ (e.padChunk n).state.rseCnt = 0 ∧
      (e.padChunk n).state.par = List.replicate e.state.cfg.P 0 ∧ (e.padChunk n).state.dscPh = 0 := by
  induction n generalizing e with
  | zero => cases hn
  | succ n ih =>
    have hcount : e.state.rseCnt.toNat < 255 := by omega
    have htake := painted_takeByte hcount hpar Config.pad
    rw [EncodeRun.padChunk, if_neg hopen]
    cases n with
    | zero =>
      have hregisters := takeByte_registers hcount (b := Config.pad) (f := e.takeByte Config.pad) rfl
      rw [if_pos hK] at htake
      rw [EncodeRun.padChunk]
      generalize e.takeByte Config.pad = f at htake hregisters
      obtain ⟨hph, -, hclosed⟩ := hregisters
      obtain ⟨hparClear, hzero, -⟩ := hclosed hK
      exact ⟨htake, hzero, hparClear, hph⟩
    | succ m =>
      have hmore : e.state.rseCnt.toNat + 1 ≠ e.state.cfg.K := by omega
      rw [takeByte_of_stays_open hcount hmore]
      rw [takeByte_of_stays_open hcount hmore, if_neg hmore] at htake
      have hcfg := sendByte_cfg e Config.pad
      have hcnt := congrArg BitVec.toNat (sendByte_rseCnt e Config.pad)
      have hlen := (congrArg List.length (sendByte_par e Config.pad)).trans (length_lfsrStep hpar _)
      generalize e.sendByte Config.pad = f at htake hcfg hcnt hlen ⊢
      rw [toNat_count_add_one hcount] at hcnt
      have hfopen : f.state.rseCnt ≠ 0 := fun hzero => by
        rw [hzero] at hcnt
        cases hcnt
      obtain ⟨hpainted, hregs⟩ := ih (hlen.trans (congrArg Params.P hcfg.symm)) hfopen (Nat.succ_pos m)
        (by rw [hcnt, hcfg]; omega) (hcfg ▸ hsmall)
      rw [hcfg] at hpainted hregs
      have hboth := htake.trans hpainted
      rw [show 3 + 3 * (m + 1 + e.state.cfg.P) = 3 * (m + 1 + 1 + e.state.cfg.P) by omega] at hboth
      exact ⟨hboth, hregs⟩

/-- The digits that `ENC.END` has still to paint (R245). -/
def State.pendingDigits (s : State) : Nat :=
  if s.rseCnt = 0 then 0 else 3 * (s.cfg.K - s.rseCnt.toNat + s.cfg.P)

/-- What the padding leaves, whether a chunk is open or not. -/
theorem padChunk_of_inv {s : State} (h : Inv s) (hph : s.dscPh = 0) (hK : s.rseCnt.toNat ≠ s.cfg.K) {f : EncodeRun}
    (hf : (EncodeRun.mk s []).padChunk (s.cfg.K - s.rseCnt.toNat) = f) :
    Painted ⟨s, []⟩ s.pendingDigits f ∧ f.state.rseCnt = 0 ∧ f.state.par = List.replicate s.cfg.P 0 ∧
      f.state.dscPh = 0 := by
  have hle := h.rseCnt_le
  have hN := h.N_le
  have hNeq := s.cfg.N_eq
  by_cases hzero : s.rseCnt = 0
  · have hnone : (EncodeRun.mk s []).padChunk (s.cfg.K - s.rseCnt.toNat) = ⟨s, []⟩ := by
      cases s.cfg.K - s.rseCnt.toNat with
      | zero => rfl
      | succ n => exact if_pos hzero
    obtain rfl := hnone.symm.trans hf
    rw [State.pendingDigits, if_pos hzero]
    exact ⟨.start, hzero, h.par_clear hzero, hph⟩
  · rw [State.pendingDigits, if_neg hzero, ← hf]
    exact padChunk_closes (e := ⟨s, []⟩) h.par_length hzero (by omega) (by dsimp only; omega) (by dsimp only; omega)

/-! ### The last frame flushed -/

/-- The frame in progress is emitted, unless none of it is painted; either way the cursor is at its start. -/
theorem flush_cases (e : EncodeRun) :
    (e.state.cur = 0 ∧ e.flush = e) ∨ (e.state.cur ≠ 0 ∧ e.flush = e.emit) := by
  by_cases h : e.state.cur = 0
  · exact .inl ⟨h, if_pos h⟩
  · exact .inr ⟨h, if_neg h⟩

theorem ceil_div_of_mod_eq_zero {q c : Nat} (hc : 0 < c) (h : q % c = 0) : (q + (c - 1)) / c = q / c := by
  have hdiv := Nat.mod_add_div q c
  refine (Nat.div_mod_unique hc (c := c - 1)).mpr ⟨?_, by omega⟩ |>.1
  omega

theorem ceil_div_of_mod_ne_zero {q c : Nat} (hc : 0 < c) (h : q % c ≠ 0) : (q + (c - 1)) / c = q / c + 1 := by
  have hdiv := Nat.mod_add_div q c
  have hlt := Nat.mod_lt q hc
  refine (Nat.div_mod_unique hc (c := q % c - 1)).mpr ⟨?_, by omega⟩ |>.1
  rw [Nat.mul_succ]
  omega

theorem flush_registers (f : EncodeRun) : f.flush.state.cur = 0 ∧ f.flush.state.par = f.state.par ∧
    f.flush.state.rseCnt = f.state.rseCnt ∧ f.flush.state.dscPh = f.state.dscPh := by
  obtain ⟨hzero, h⟩ | ⟨-, h⟩ := flush_cases f
  · rw [h]
    exact ⟨hzero, rfl, rfl, rfl⟩
  · rw [h]
    exact ⟨rfl, rfl, rfl, rfl⟩

namespace Painted

variable {s : State} {n : Nat} {f : EncodeRun} (hcur : s.cur.toNat < s.cnt) (h : Painted ⟨s, []⟩ n f)
include hcur h

theorem cur_eq_zero_iff : f.state.cur = 0 ↔ (s.cur.toNat + n) % s.cnt = 0 := by
  have hcurEq : f.state.cur.toNat = (s.cur.toNat + n) % s.cnt := h.cur_eq hcur
  rw [← hcurEq]
  exact BitVec.toNat_inj.symm

/-- The digits pending are painted and the last frame, full or not, is emitted (R245, R247). -/
theorem flush_events : ∃ images : List (List Byte), f.flush.events = images.map .emitFrame ∧
    images.length = (s.cur.toNat + n + (s.cnt - 1)) / s.cnt ∧ ∀ image ∈ images, image.length = s.frameBytes := by
  have hcnt := Nat.zero_lt_of_lt hcur
  obtain ⟨images, hevents, hlen, hraster⟩ := h.events_eq hcur
  have hevents' : f.events = images.map .emitFrame := hevents
  obtain ⟨hzero, hflush⟩ | ⟨hne, hflush⟩ := flush_cases f
  · rw [hflush, ceil_div_of_mod_eq_zero hcnt ((h.cur_eq_zero_iff hcur).mp hzero)]
    exact ⟨images, hevents', hlen, hraster⟩
  · rw [hflush, ceil_div_of_mod_ne_zero hcnt (mt (h.cur_eq_zero_iff hcur).mpr hne)]
    refine ⟨images ++ [f.state.frameImage], ?_, ?_, fun image himage => ?_⟩
    · rw [List.map_append, ← hevents']
      rfl
    · rw [List.length_append, hlen]
      rfl
    · rcases List.mem_append.mp himage with hold | hnew
      · exact hraster image hold
      · rw [List.mem_singleton.mp hnew, State.frameImage, List.length_map, List.length_range, h.frameBytes_eq]

theorem flush_lookup_of_le {a : Nat} (ha : s.frameBytes ≤ a) :
    Memory.lookup f.flush.state.frame a = Memory.lookup s.frame a := by
  rw [← h.lookup_of_le hcur ha]
  obtain ⟨-, hflush⟩ | ⟨-, hflush⟩ := flush_cases f
  · rw [hflush]
  · rw [hflush]
    exact (lookup_blankFrame f.state a).trans (if_neg (h.frameBytes_eq.trans_le ha).not_gt)

/-- After the flush the frame is blank, unless no digit was painted and none was pending. -/
theorem flush_blank (hstart : n = 0 → s.cur = 0 → s.Blank) : f.flush.state.Blank := by
  obtain ⟨hzero, hflush⟩ | ⟨-, hflush⟩ := flush_cases f
  · rw [hflush]
    exact h.blank_of_cur_eq_zero hcur hstart hzero
  · rw [hflush]
    exact fun a ha => (lookup_blankFrame f.state a).trans (if_pos ha)

/-- With no digit to paint and none pending the frame is not touched. -/
theorem flush_frame_of_nothing (hnone : s.cur.toNat + n = 0) : f.flush.state.frame = s.frame := by
  obtain rfl : n = 0 := Nat.eq_zero_of_add_eq_zero_left hnone
  have hzero : f.state.cur = 0 := (h.cur_eq_zero_iff hcur).mpr (by rw [hnone, Nat.zero_mod])
  rw [EncodeRun.flush, if_pos hzero]
  exact h.frame_eq

end Painted

/-! ### `ENC.END` (R245) -/

/-- The registers as `ENC.END` leaves them. -/
def State.sessionEnded (s : State) (frame : Memory) (images : List (List Byte)) : State :=
  { s with
    par := List.replicate s.cfg.P 0, rseCnt := 0, dscByte := 0, cur := 0, frame := frame,
    response := some ⟨0, BitVec.ofNat 48 images.length, images.map .emitFrame⟩ }

theorem responded_close {s : State} {n : Nat} {f : EncodeRun} {images : List (List Byte)} (h : Painted ⟨s, []⟩ n f)
    (hrseCnt : f.state.rseCnt = 0) (hpar : f.state.par = List.replicate s.cfg.P 0) (hph : f.state.dscPh = s.dscPh)
    (hevents : f.flush.events = images.map .emitFrame) :
    f.flush.close.responded = s.sessionEnded f.flush.state.frame images := by
  obtain ⟨hcurZero, hparEq, hrseEq, hphEq⟩ := flush_registers f
  have honly : s.OnlyEncodes f.flush.state := h.onlyEncodes.trans (flush_onlyEncodes f)
  have hstate : { f.flush.state with response := none } = { s with
      par := List.replicate s.cfg.P 0, rseCnt := 0, dscByte := f.flush.state.dscByte, cur := 0,
      frame := f.flush.state.frame, response := none } :=
    (honly.eq_with (hphEq.trans hph) none).trans (by rw [hparEq, hrseEq, hcurZero, hpar, hrseCnt])
  rw [responded_of_images (e := f.flush.close) hevents]
  exact congrArg (fun t : State => { t with
    dscByte := 0, response := some ⟨0, BitVec.ofNat 48 images.length, images.map .emitFrame⟩ }) hstate

/-- What a command that ends a session does: the frames, the memory and the registers. -/
theorem exec_encEnd_of_inv {s : State} (hinv : Inv s) (hfault : s.fault = none) (hcnt : 0 < s.cnt) (hph : s.dscPh = 0)
    (hK : s.rseCnt.toNat ≠ s.cfg.K) : ∃ (frame : Memory) (images : List (List Byte)),
      exec .encEnd s = .next (s.sessionEnded frame images) ∧
      images.length = (s.cur.toNat + s.pendingDigits + (s.cnt - 1)) / s.cnt ∧
      (∀ image ∈ images, image.length = s.frameBytes) ∧
      (s.cur.toNat + s.pendingDigits = 0 → frame = s.frame) ∧
      (∀ a, s.frameBytes ≤ a → Memory.lookup frame a = Memory.lookup s.frame a) ∧
      ((s.pendingDigits = 0 → s.cur = 0 → s.Blank) → ∀ a < s.frameBytes, Memory.lookup frame a = some 0) := by
  have hcur := hinv.cur_lt hcnt
  have hexec := exec_encEnd_of_ready hfault hcur hph hK
  rw [EncodeRun.finished] at hexec
  have hpad := fun f => padChunk_of_inv hinv hph hK (f := f)
  generalize (EncodeRun.mk s []).padChunk (s.cfg.K - s.rseCnt.toNat) = f at hexec hpad
  obtain ⟨hpainted, hrseCnt, hpar, hfph⟩ := hpad f rfl
  obtain ⟨images, hevents, hlen, hraster⟩ := hpainted.flush_events hcur
  rw [responded_close hpainted hrseCnt hpar (hfph.trans hph.symm) hevents] at hexec
  refine ⟨_, images, hexec, hlen, hraster, hpainted.flush_frame_of_nothing hcur,
    fun a => hpainted.flush_lookup_of_le hcur, fun hstart a ha => ?_⟩
  exact hpainted.flush_blank hcur hstart a
    ((hpainted.onlyEncodes.trans (flush_onlyEncodes f)).frameBytes_eq.symm ▸ ha)

/-- Settles O53. -/
theorem encodeEndFlushesTheSession : Obligations.EncodeEndFlushesTheSession := by
  refine ⟨encodesBare_encEnd, fun s hfault => ⟨exec_encEnd_of_no_grid hfault, exec_encEnd_of_busy hfault⟩,
    fun s hinv hfault hcnt hph hK => ?_⟩
  obtain ⟨frame, images, hexec, hlen, hraster, hsame, hhigh, hblank⟩ := exec_encEnd_of_inv hinv hfault hcnt hph hK
  refine ⟨_, images, hexec, rfl, hlen, hraster, hsame, fun hsome a => ?_⟩
  have hstart (hnone : s.pendingDigits = 0) (hzero : s.cur = 0) : s.Blank := by
    refine absurd ?_ hsome
    change s.cur.toNat + s.pendingDigits = 0
    rw [hnone, hzero]
    rfl
  rw [readByte_eq]
  split
  · next ha => exact congrArg (Option.getD · _) (hblank hstart a ha)
  · next ha => exact congrArg (Option.getD · _) (hhigh a (Nat.le_of_not_lt ha))

end Sys2Proof.Machine
end

section
/-!
A session ends as it began (spec/60_exceptions.md R314): the registers by the rules of `ENC.END`, the frame because two
memories in canonical form that agree at every address are one.
-/

namespace Sys2Proof.Machine

/-! ### Memories with the same cells -/

theorem eq_of_lookup_eq {m m' : Memory} {lo : Nat} (hm : Memory.risingFrom lo m = true)
    (hm' : Memory.risingFrom lo m' = true) (h : ∀ a, Memory.lookup m a = Memory.lookup m' a) : m = m' := by
  induction m generalizing lo m' with
  | nil =>
    cases m' with
    | nil => rfl
    | cons c m' =>
      have hfirst := h c.1
      rw [lookup_cons, if_pos rfl] at hfirst
      cases hfirst
  | cons c m ih =>
    obtain ⟨a, v⟩ := c
    have hrise := hm
    simp only [Memory.risingFrom, Bool.and_eq_true, decide_eq_true_eq] at hm
    obtain ⟨⟨hlo, -⟩, hrest⟩ := hm
    cases m' with
    | nil =>
      have hfirst := h a
      rw [lookup_cons, if_pos rfl] at hfirst
      cases hfirst
    | cons c' m' =>
      obtain ⟨a', v'⟩ := c'
      have hrise' := hm'
      simp only [Memory.risingFrom, Bool.and_eq_true, decide_eq_true_eq] at hm'
      obtain ⟨⟨hlo', -⟩, hrest'⟩ := hm'
      have hhead : a = a' := by
        rcases Nat.lt_trichotomy a a' with hlt | heq | hgt
        · have hfirst := h a
          rw [lookup_cons, if_pos rfl, lookup_cons, if_neg hlt.ne, lookup_of_lt hrest' (Nat.lt_succ_of_lt hlt)]
            at hfirst
          cases hfirst
        · exact heq
        · have hfirst := h a'
          rw [lookup_cons, if_neg hgt.ne, lookup_of_lt hrest (Nat.lt_succ_of_lt hgt), lookup_cons, if_pos rfl] at hfirst
          cases hfirst
      subst hhead
      have hvalue := h a
      rw [lookup_cons, lookup_cons, if_pos rfl, if_pos rfl] at hvalue
      obtain rfl := Option.some.inj hvalue
      refine congrArg _ (ih hrest hrest' fun x => ?_)
      by_cases hx : x = a
      · subst hx
        rw [lookup_of_lt hrest (Nat.lt_succ_self x), lookup_of_lt hrest' (Nat.lt_succ_self x)]
      · have hcell := h x
        rwa [lookup_cons, lookup_cons, if_neg hx, if_neg hx] at hcell

/-! ### The points of a session -/

/-- A state in which a session may begin (R241, R245). -/
structure Fresh (x : State) : Prop where
  inv : Inv x
  running : x.fault = none
  grid : 0 < x.cnt
  cur : x.cur = 0
  dscPh : x.dscPh = 0
  dscByte : x.dscByte = 0
  rseCnt : x.rseCnt = 0
  blank : x.Blank

/-- A state between two commands of a session begun in `x`. -/
structure Underway (x t : State) : Prop where
  inv : Inv t
  only : x.OnlyEncodes t
  dscPh : t.dscPh = 0
  chunkOpen : t.rseCnt.toNat ≠ t.cfg.K
  outside : ∀ a, x.frameBytes ≤ a → Memory.lookup t.frame a = Memory.lookup x.frame a
  blank : t.cur = 0 → t.Blank

section

variable {x t v : State}

theorem Inv.K_pos (h : Inv x) : 0 < x.cfg.K := by
  obtain ⟨hK, -⟩ := h.params
  exact hK

theorem Fresh.underway (h : Fresh x) : Underway x x := by
  refine ⟨h.inv, rfl, h.dscPh, fun hK => ?_, fun _ _ => rfl, fun _ => h.blank⟩
  rw [h.rseCnt] at hK
  exact h.inv.K_pos.ne hK

/-- A byte of the payload leads from one point of the session to another. -/
theorem Underway.encByte (hx : Fresh x) (h : Underway x t) (b : Byte) :
    ∃ u, exec (.encByte b) t = .next u ∧ Underway x u := by
  have hcnt : 0 < t.cnt := h.only.cnt_eq ▸ hx.grid
  have hcur := h.inv.cur_lt hcnt
  have hexec := exec_encByte_of_ready (h.only.fault_eq.trans hx.running) hcur h.dscPh h.chunkOpen b
  obtain ⟨u, r, hu, -, hinv⟩ := exec_of_inv (.encByte b) h.inv
  obtain rfl := Host.Outcome.next.inj (hu.symm.trans hexec)
  have hpainted := painted_takeByte (e := ⟨t, []⟩) (h.inv.rseCnt_lt h.chunkOpen) h.inv.par_length b
  have hregisters := fun f => takeByte_registers (e := ⟨t, []⟩) (f := f) (h.inv.rseCnt_lt h.chunkOpen) (b := b)
  generalize (EncodeRun.mk t []).takeByte b = f at hexec hpainted hregisters hinv
  obtain ⟨hph, hopen, hclosed⟩ := hregisters f rfl
  have hcfg : f.state.cfg = t.cfg := hpainted.onlyEncodes.cfg_eq
  refine ⟨_, hexec, hinv, h.only.trans (hpainted.onlyEncodes.trans rfl), hph, fun hfull => ?_, fun a ha => ?_,
    fun hzero => ?_⟩
  · have hfullK : f.state.rseCnt.toNat = t.cfg.K := hcfg ▸ hfull
    by_cases hlast : t.rseCnt.toNat + 1 = t.cfg.K
    · obtain ⟨-, hclear, -⟩ := hclosed hlast
      rw [hclear] at hfullK
      exact h.inv.K_pos.ne hfullK
    · obtain ⟨-, hcount, -⟩ := hopen hlast
      rw [hcount, toNat_count_add_one (h.inv.rseCnt_lt h.chunkOpen)] at hfullK
      exact hlast hfullK
  · exact (hpainted.lookup_of_le hcur (h.only.frameBytes_eq.symm ▸ ha)).trans (h.outside a ha)
  · exact hpainted.blank_of_cur_eq_zero hcur (fun _ => h.blank) hzero

/-- `ENC.END` leads back to the start. -/
theorem Underway.encEnd (hx : Fresh x) (h : Underway x t) (hexec : exec .encEnd t = .next v) :
    v = { x with response := v.response } := by
  have hcnt : 0 < t.cnt := h.only.cnt_eq ▸ hx.grid
  have hfault := h.only.fault_eq.trans hx.running
  have hbytes := h.only.frameBytes_eq
  obtain ⟨u, r, hu, -, hinv⟩ := exec_of_inv .encEnd h.inv
  obtain ⟨frame, images, hend, -, -, -, hhigh, hblank⟩ := exec_encEnd_of_inv h.inv hfault hcnt h.dscPh h.chunkOpen
  obtain rfl := Host.Outcome.next.inj (hu.symm.trans hexec)
  obtain rfl := Host.Outcome.next.inj (hend.symm.trans hexec)
  have hwf : Memory.wf frame = true := hinv.memory
  have hframe : frame = x.frame := by
    refine eq_of_lookup_eq hwf hx.inv.memory fun a => ?_
    by_cases ha : a < x.frameBytes
    · rw [hblank (fun _ => h.blank) a (hbytes.symm ▸ ha), hx.blank a ha]
    · rw [hhigh a (hbytes.trans_le (Nat.le_of_not_lt ha)), h.outside a (Nat.le_of_not_lt ha)]
  have hregisters := h.only.eq_with (h.dscPh.trans hx.dscPh.symm) none
  calc t.sessionEnded frame images
      = { x with
          par := List.replicate x.cfg.P 0, rseCnt := 0, dscByte := 0, cur := 0,
          response := (t.sessionEnded frame images).response } := by
        rw [hframe]
        exact congrArg (fun u : State => { u with
          par := List.replicate u.cfg.P 0, rseCnt := 0, dscByte := 0, cur := 0, frame := x.frame,
          response := (t.sessionEnded x.frame images).response }) hregisters
    _ = { x with response := (t.sessionEnded frame images).response } := by
        simp only [hx.inv.par_clear hx.rseCnt, hx.rseCnt, hx.dscByte, hx.cur]

/-- The commands of a session after its first, when they all complete. -/
theorem session_cons_inv {i : Instr} {is : List Instr} {s t u : State} {events : List Event}
    (h : session (i :: is) s = some (u, events)) (hexec : exec i s = .next t) :
    ∃ events', session is t = some (u, events') := by
  rw [session, hexec] at h
  dsimp only at h
  split at h
  · split at h
    · split at h
      · next u' events' hrest =>
        cases h
        exact ⟨events', hrest⟩
      · cases h
    · cases h
  · cases h

/-- Commands that complete keep the invariant. -/
theorem Inv.of_session {is : List Instr} {s u : State} {events : List Event} (h : Inv s)
    (hsession : Machine.session is s = some (u, events)) : Inv u := by
  induction is generalizing s events with
  | nil =>
    cases hsession
    exact h
  | cons i is ih =>
    obtain ⟨t, r, hexec, -, hinv⟩ := exec_of_inv i h
    obtain ⟨events', hrest⟩ := session_cons_inv hsession hexec
    exact ih hinv hrest

/-- THE SESSION ENDS AS IT BEGAN. -/
theorem Underway.session (hx : Fresh x) (h : Underway x t) (bytes : List Byte) {events : List Event}
    (hsession : Machine.session (bytes.map .encByte ++ [.encEnd]) t = some (v, events)) :
    v = { x with response := v.response } := by
  induction bytes generalizing t events with
  | nil =>
    obtain ⟨u, r, hexec, -, -⟩ := exec_of_inv .encEnd h.inv
    obtain ⟨events', hnil⟩ := session_cons_inv hsession hexec
    cases hnil
    exact h.encEnd hx hexec
  | cons b bytes ih =>
    obtain ⟨u, hexec, hnext⟩ := h.encByte hx b
    obtain ⟨events', hrest⟩ := session_cons_inv hsession hexec
    exact ih hnext hrest

/-- A session from a fresh state. -/
theorem Fresh.session (hx : Fresh x) (bytes : List Byte) : ∃ v,
    Machine.session (bytes.map .encByte ++ [.encEnd]) x =
      some (v, x.sessionFrames (digitStream (eccEncode x.cfg bytes))) ∧
    v = { x with response := v.response } := by
  have hsent : Sent x [] [] [] ⟨x, []⟩ := by
    refine ⟨⟨rfl, ?_, fun a ha => ?_, ?_⟩, hx.dscPh, hx.inv.par_clear hx.rseCnt, ?_, hx.inv.K_pos⟩
    · exact (congrArg BitVec.toNat hx.cur).trans (Nat.zero_mod _).symm
    · rw [sessionByte_of_length_le (Nat.zero_le _)]
      exact congrArg (Option.getD · _) (hx.blank a ha)
    · have hnone : digitStream ([] ++ []) = [] := rfl
      rw [hnone, State.fullFrames, List.length_nil, Nat.zero_div]
      rfl
    · exact congrArg BitVec.toNat hx.rseCnt
  obtain ⟨v, events, hsession, hframes⟩ := session_encBytes hx.inv.params hx.running hx.grid bytes hsent
  refine ⟨v, ?_, hx.underway.session hx bytes hsession⟩
  rw [hsession, ← List.nil_append events, hframes]
  rfl

theorem Fresh.of_eq_with_response (hx : Fresh x) (hinv : Inv v) (hv : v = { x with response := v.response }) :
    Fresh v := by
  refine ⟨hinv, ?_, ?_, ?_, ?_, ?_, ?_, ?_⟩
  all_goals rw [hv]
  · exact hx.running
  · exact hx.grid
  · exact hx.cur
  · exact hx.dscPh
  · exact hx.dscByte
  · exact hx.rseCnt
  · exact hx.blank

end

/-- `ENC.START` makes a fresh state (R241). -/
theorem fresh_encodeStart {s : State} (hinv : Inv s) (hfault : s.fault = none) (hcnt : 0 < s.cnt) :
    Fresh (s.encodeStart.answer 0 []) := by
  refine ⟨hinv.encodeStart.answer 0 [], hfault, hcnt, rfl, rfl, rfl, rfl, fun a ha => ?_⟩
  exact (lookup_blankFrame s.rseClear a).trans (if_pos ha)

/-- Settles O59. -/
theorem encodeEndRestoresTheStartState : Obligations.EncodeEndRestoresTheStartState := by
  intro s p q hinv hfault hcnt
  have hfresh := fresh_encodeStart hinv hfault hcnt
  obtain ⟨t, hfirst, ht⟩ := hfresh.session p
  have hagain : Fresh t := hfresh.of_eq_with_response (hfresh.inv.of_session hfirst) ht
  obtain ⟨v, hsecond, hv⟩ := hagain.session q
  refine ⟨_, t, v, _, exec_encStart_of_grid hfault hcnt, hfirst, ht, ?_, ?_⟩
  · rw [hsecond, ht]
    rfl
  · rw [hv, ht]

end Sys2Proof.Machine
end

section
/-!
`DEC.BLOCK` (spec/45_datapath.md R251): its checks in the order of R294, the digit of a block, and the codeword that a
block completes.
-/

namespace Sys2Proof.Machine

theorem encodesBare_decBlock : EncodesBare 0xA2 .decBlock := fun arg => decode_commandWord 0xA2 arg

/-! ### The response (R251) -/

theorem blockField_eq_ofNat {nout : Nat} (hnout : nout < 256) (indet done wrap : Bool) :
    blockField nout indet done wrap = BitVec.ofNat 48
      (256 * nout + (if indet then 4 else 0) + (if done then 2 else 0) + (if wrap then 1 else 0)) := by
  have hbit (k : Nat) (b : Bool) : k * b.toNat = if b then k else 0 := by cases b <;> simp
  rw [blockField, field_append, toNat_append_eq_add, toNat_append_eq_add, toNat_append_eq_add, toNat_bit, toNat_bit,
    toNat_bit, BitVec.toNat_ofNat, Nat.mod_eq_of_lt hnout]
  have hwrap := hbit 1 wrap
  rw [Nat.one_mul] at hwrap
  simp only [Nat.reduceAdd, Nat.reducePow, BitVec.toNat_ofNat, Nat.zero_mod, Nat.mul_zero, Nat.zero_add, hbit, hwrap,
    Nat.add_assoc]

/-! ### The checks (R294) -/

section

variable {s : State} (hfault : s.fault = none)
include hfault

theorem exec_decBlock_of_no_grid (hcnt : s.cnt = 0) : exec .decBlock s = .next (s.takeFault .configError 0xA2) := by
  change execDecBlock s = _
  rw [execDecBlock, command_of_running hfault, if_pos hcnt, finish_raised]

theorem exec_decBlock_of_done (hcnt : 0 < s.cnt) (hdone : s.tgtLen.toNat ≤ s.outCnt.toNat) :
    exec .decBlock s = .next { s with response := some ⟨0, 2, []⟩ } := by
  change execDecBlock s = _
  rw [execDecBlock, command_of_running hfault, if_neg hcnt.ne', if_pos ((done_iff s).mpr hdone), finish_ok]
  rfl

variable (hcnt : 0 < s.cnt) (hmore : s.outCnt.toNat < s.tgtLen.toNat)
include hcnt hmore

theorem exec_decBlock_of_not_ready (h : s.frameValid = false ∨ s.cwcnt.toNat = s.cfg.N) :
    exec .decBlock s = .next (s.takeFault .sequenceError 0xA2) := by
  change execDecBlock s = _
  rw [execDecBlock, command_of_running hfault, if_neg hcnt.ne', if_neg (mt (done_iff s).mp hmore.not_ge), if_pos h,
    finish_raised]

variable (hcur : s.cur.toNat < s.cnt) (hvalid : s.frameValid = true) (hfull : s.cwcnt.toNat ≠ s.cfg.N)
include hcur hvalid hfull

/-- Behind its checks the command is the body of R251. -/
theorem exec_decBlock_of_ready : exec .decBlock s = finish s s.decodeBlock := by
  have hready : ¬ (s.frameValid = false ∨ s.cwcnt.toNat = s.cfg.N) := by
    rw [hvalid]
    exact fun h => h.elim nofun hfull
  change execDecBlock s = _
  rw [execDecBlock, command_of_running hfault, if_neg hcnt.ne', if_neg (mt (done_iff s).mp hmore.not_ge), if_neg hready,
    if_neg hcur.not_ge]

variable {d : Digit} {indet : Bool} (hreads : BlockReads s d indet)
include hreads

omit hfault hcnt hmore hcur hvalid hfull in
theorem digitOfResult_of_reads : digitOfResult (s.classify s.cur.toNat) = .ok (d, indet) := by
  obtain ⟨hclass, rfl, rfl⟩ | ⟨c, hclass, hdigit, rfl⟩ := hreads
  · rw [hclass]
    rfl
  · rw [hclass, digitOfResult, hdigit]

theorem exec_decBlock_of_taken {t : State} {out : List Byte} (htake : s.takeSymbol d indet = .ok (t, out)) :
    exec .decBlock s = .next (t.consumeBlock.answer (blockField out.length indet t.done t.lastBlock)
      (out.map .outByte)) := by
  rw [exec_decBlock_of_ready hfault hcnt hmore hcur hvalid hfull, State.decodeBlock, digitOfResult_of_reads hreads]
  dsimp only
  rw [htake]
  rfl

theorem exec_decBlock_of_raised {k : FaultKind} {info : Word48} (htake : s.takeSymbol d indet = raised k info) :
    exec .decBlock s = .next (s.takeFault k info) := by
  rw [exec_decBlock_of_ready hfault hcnt hmore hcur hvalid hfull, State.decodeBlock, digitOfResult_of_reads hreads]
  dsimp only
  rw [htake]
  exact finish_raised ..

end

/-! ### The digit of a block (R221) -/

section

variable {s : State} {d : Digit} {indet : Bool} (hreads : BlockReads s d indet)
include hreads

/-- An indeterminate block brings the placeholder, which is the digit 0. -/
theorem pushedDigit_of_reads : pushedDigit d indet = d := by
  obtain ⟨-, rfl, rfl⟩ | ⟨c, -, -, rfl⟩ := hreads <;> rfl

theorem setWidth_accumulate_of_reads (w : Nat) :
    (accumulate s.dacc (pushedDigit d indet)).setWidth w = BitVec.ofNat w (8 * s.dacc.toNat + d.toNat) := by
  rw [pushedDigit_of_reads hreads, ← BitVec.ofNat_toNat, toNat_accumulate]

end

/-- What a block leaves when its symbol is taken: the cursor one block on in the same frame (R251). -/
theorem exec_decBlock_eq {s t : State} {d : Digit} {indet : Bool} {out : List Byte} (hinv : Inv s)
    (hfault : s.fault = none) (hcnt : 0 < s.cnt) (hmore : s.outCnt.toNat < s.tgtLen.toNat)
    (hvalid : s.frameValid = true) (hfull : s.cwcnt.toNat ≠ s.cfg.N) (hreads : BlockReads s d indet)
    (htake : s.takeSymbol d indet = .ok (t, out)) (hout : out.length < 256)
    {value : Nat} (hvalue : 256 * out.length + (if indet then 4 else 0) + (if t.done then 2 else 0) = value) :
    exec .decBlock s = .next { t with
      cur := if s.cur.toNat + 1 = s.cnt then 0 else s.cur + 1
      frameValid := !decide (s.cur.toNat + 1 = s.cnt)
      response := some ⟨0, BitVec.ofNat 48 (value + (if decide (s.cur.toNat + 1 = s.cnt) then 1 else 0)),
        out.map .outByte⟩ } := by
  have honly := takeSymbol_onlyDecodes htake
  have htcur : t.cur = s.cur := by rw [honly]
  have hlast : t.lastBlock = decide (s.cur.toNat + 1 = s.cnt) := by
    rw [State.OnlyDecodes] at honly
    rw [honly]
    rfl
  have hframe : (if t.lastBlock then false else t.frameValid) = !decide (s.cur.toNat + 1 = s.cnt) := by
    rw [honly.frameValid_eq, hvalid, hlast]
    cases decide (s.cur.toNat + 1 = s.cnt) <;> rfl
  have hcur : (if t.lastBlock then 0 else t.cur + 1) = if s.cur.toNat + 1 = s.cnt then 0 else s.cur + 1 := by
    rw [hlast, htcur]
    exact if_congr decide_eq_true_iff rfl rfl
  rw [exec_decBlock_of_taken hfault hcnt hmore (hinv.cur_lt hcnt) hvalid hfull hreads htake, State.consumeBlock,
    State.advance, hframe, hcur, blockField_eq_ofNat hout, hlast, hvalue]
  rfl

/-- Settles O56. -/
theorem decodeBlockPacksOneDigit : Obligations.DecodeBlockPacksOneDigit := by
  refine ⟨encodesBare_decBlock, fun s hfault => ⟨exec_decBlock_of_no_grid hfault, exec_decBlock_of_done hfault,
    exec_decBlock_of_not_ready hfault⟩, fun s d indet hinv hfault hcnt hmore hvalid hfull hreads => ?_⟩
  have hdone : s.done = false := Bool.eq_false_iff.mpr (mt (done_iff s).mp hmore.not_ge)
  have hvalue : 256 * ([] : List Byte).length + (if indet then 4 else 0) + (if s.done then 2 else 0) =
      if indet then 4 else 0 := by
    rw [hdone]
    exact (Nat.add_zero _).trans (Nat.zero_add _)
  refine ⟨fun hdcnt => ?_, fun hdcnt hopen => ?_⟩
  · have hpartial : s.dcnt < 2 := BitVec.lt_def.mpr hdcnt
    have htake := takeSymbol_of_partial hpartial d indet
    rw [sspTake_partial hpartial, setWidth_accumulate_of_reads hreads] at htake
    exact exec_decBlock_eq hinv hfault hcnt hmore hvalid hfull hreads htake (Nat.zero_lt_succ _) hvalue
  · have hbyte : ¬ s.dcnt < 2 := fun hlt => (BitVec.lt_def.mp hlt).ne hdcnt
    have htake := takeSymbol_of_byte hbyte hopen d indet
    rw [sspTake_byte hbyte, setWidth_accumulate_of_reads hreads] at htake
    exact exec_decBlock_eq hinv hfault hcnt hmore hvalid hfull hreads htake (Nat.zero_lt_succ _) hvalue

/-! ### A block that completes a codeword (R251, R184, R253) -/

/-- The decoder passes an unflagged codeword on and corrects a flagged one. -/
theorem rsdCorrect_eq_ok {t : State} {flag : Bool} {c : List Byte}
    (h : (flag = false ∧ c = t.rsdBuf) ∨ (flag = true ∧ rsCorrect t.cfg.P t.rsdBuf = some c)) :
    ∃ n, t.rsdCorrect flag = .ok ({ t with rsdBuf := c, rsdOk := true }, n) := by
  obtain ⟨rfl, rfl⟩ | ⟨rfl, hc⟩ := h
  · exact ⟨0, rfl⟩
  · refine ⟨hammingDist t.rsdBuf c, ?_⟩
    rw [State.rsdCorrect, if_pos rfl, hc]

theorem decodeCodeword_of_corrected {t : State} {c : List Byte}
    (h : (t.cflag = false ∧ c = t.cwbuf) ∨ (t.cflag = true ∧ rsCorrect t.cfg.P t.cwbuf = some c)) :
    let out := c.take (min t.cfg.K (t.tgtLen.toNat - t.outCnt.toNat))
    t.decodeCodeword = .ok ({ t with
      rsdBuf := c, rsdCnt := BitVec.ofNat 8 t.cfg.N, rsdOk := true, cwcnt := 0, cflag := false,
      cwidx := t.cwidx + 1, outCnt := t.outCnt + BitVec.ofNat 48 out.length }, out) := by
  obtain ⟨n, hn⟩ := rsdCorrect_eq_ok
    (t := { t with rsdBuf := t.cwbuf, rsdCnt := BitVec.ofNat 8 t.cfg.N, rsdOk := false }) h
  have hout : (c.take t.cfg.K).take (t.tgtLen.toNat - t.outCnt.toNat) =
      c.take (min t.cfg.K (t.tgtLen.toNat - t.outCnt.toNat)) := by rw [List.take_take, Nat.min_comm]
  dsimp only
  rw [← hout, State.decodeCodeword, hn]
  rfl

theorem decodeCodeword_of_uncorrectable {t : State} (hflag : t.cflag = true)
    (h : rsCorrect t.cfg.P t.cwbuf = none) : t.decodeCodeword = raised .uncorrectableCodeword t.cwidx := by
  rw [State.decodeCodeword, hflag, State.rsdCorrect, if_pos rfl]
  dsimp only
  rw [h]
  rfl

/-- The decoder's result has the length of the codeword. -/
theorem length_of_corrected {P n : Nat} {flag : Bool} {word c : List Byte} (hlen : word.length = n) (hn : n ≤ 255)
    (h : (flag = false ∧ c = word) ∨ (flag = true ∧ rsCorrect P word = some c)) : c.length = n := by
  obtain ⟨-, rfl⟩ | ⟨-, hc⟩ := h
  · exact hlen
  · obtain ⟨hsame, -⟩ := (rsCorrect_eq_some_iff (hlen.trans_le hn)).mp hc
    exact hsame.trans hlen

/-- The output counter does not wrap below the target length. -/
theorem toNat_outCnt_add {s : State} {n : Nat} (h : s.outCnt.toNat + n ≤ s.tgtLen.toNat) :
    (s.outCnt + BitVec.ofNat 48 n).toNat = s.outCnt.toNat + n := by
  have htgt := s.tgtLen.isLt
  have hsmall : (BitVec.ofNat 48 n).toNat = n := Nat.mod_eq_of_lt (by omega)
  rw [BitVec.toNat_add_of_lt (by omega), hsmall]

/-- Settles O57. -/
theorem decodeBlockOutputsACodeword : Obligations.DecodeBlockOutputsACodeword := by
  intro s d indet hinv hfault hcnt hmore hvalid hreads hdcnt hlast
  have hfull : s.cwcnt.toNat ≠ s.cfg.N := by omega
  have hbyte : ¬ s.dcnt < 2 := fun hlt => (BitVec.lt_def.mp hlt).ne hdcnt
  have htake := takeSymbol_of_codeword hbyte hlast d indet
  rw [sspTake_byte hbyte, setWidth_accumulate_of_reads hreads] at htake
  intro wrap cur' word flag n
  have hn : n = min s.cfg.K (s.tgtLen.toNat - s.outCnt.toNat) := rfl
  refine ⟨fun c hc => ?_, fun hflag hnone => ?_⟩
  · have hN := hinv.N_le
    have hNeq := s.cfg.N_eq
    have hword : c.length = s.cfg.N := length_of_corrected (List.length_set.trans hinv.cwbuf_length) hN hc
    have hlen : (c.take n).length = n := List.length_take_of_le (by omega)
    have htaken := htake.trans (decodeCodeword_of_corrected hc)
    dsimp only at htaken
    rw [← hn, hlen] at htaken
    refine exec_decBlock_eq hinv hfault hcnt hmore hvalid hfull hreads htaken (by omega) ?_
    rw [hlen]
    refine congrArg _ (if_congr ((done_iff _).trans ?_) rfl rfl)
    dsimp only
    rw [toNat_outCnt_add (by omega)]
  · rw [decodeCodeword_of_uncorrectable hflag hnone] at htake
    exact exec_decBlock_of_raised hfault hcnt hmore (hinv.cur_lt hcnt) hvalid hfull hreads htake

end Sys2Proof.Machine
end

section
/-!
Polynomials with the lowest degree first, as the reference algorithm of spec/43_reed_solomon.md R190 writes them, and
sums of the bytes of an error, each times a function of its locator: the syndromes are such sums.
-/

namespace Sys2Proof.Machine

/-! ### Evaluation -/

theorem evalLow_nil (x : Byte) : evalLow [] x = 0 := rfl

theorem evalLow_cons (a : Byte) (c : List Byte) (x : Byte) :
    evalLow (a :: c) x = gfAdd a (gfMul (evalLow c x) x) := rfl

theorem evalLow_append (c d : List Byte) (x : Byte) :
    evalLow (c ++ d) x = gfAdd (evalLow c x) (gfMul (gfPow x c.length) (evalLow d x)) := by
  induction c with
  | nil => exact ((zero_gfAdd _).trans (one_gfMul _)).symm
  | cons a c ih =>
    rw [List.cons_append, evalLow_cons, ih, evalLow_cons, List.length_cons, gfPow_succ, gfMul_add_left, gfAdd_assoc,
      gfMul_assoc, gfMul_assoc, gfMul_comm x]

theorem evalLow_map_gfMul (k : Byte) (c : List Byte) (x : Byte) :
    evalLow (c.map (gfMul k)) x = gfMul k (evalLow c x) := by
  induction c with
  | nil => exact (gfMul_zero k).symm
  | cons a c ih => rw [List.map_cons, evalLow_cons, evalLow_cons, ih, gfMul_add_right, gfMul_assoc]

theorem evalLow_addLow (c d : List Byte) (x : Byte) :
    evalLow (addLow c d) x = gfAdd (evalLow c x) (evalLow d x) := by
  induction c generalizing d with
  | nil =>
    cases d with
    | nil => exact (gfAdd_zero _).symm
    | cons b d => exact (zero_gfAdd _).symm
  | cons a c ih =>
    cases d with
    | nil => exact (gfAdd_zero _).symm
    | cons b d =>
      rw [addLow, evalLow_cons, ih, evalLow_cons, evalLow_cons, gfMul_add_left]
      simp only [gfAdd_assoc, gfAdd_left_comm]

theorem evalLow_replicate_zero (n : Nat) (x : Byte) : evalLow (List.replicate n 0) x = 0 := by
  induction n with
  | zero => rfl
  | succ n ih => rw [List.replicate_succ, evalLow_cons, ih, zero_gfMul, gfAdd_zero]

/-- A polynomial times a power of `x`. -/
theorem evalLow_shift (n : Nat) (c : List Byte) (x : Byte) :
    evalLow (List.replicate n 0 ++ c) x = gfMul (gfPow x n) (evalLow c x) := by
  rw [evalLow_append, evalLow_replicate_zero, zero_gfAdd, List.length_replicate]

/-- A polynomial cut below and above a degree. -/
theorem evalLow_take_drop (n : Nat) (c : List Byte) (x : Byte) :
    evalLow c x = gfAdd (evalLow (c.take n) x) (gfMul (gfPow x n) (evalLow (c.drop n) x)) := by
  by_cases hn : n ≤ c.length
  · have happend := evalLow_append (c.take n) (c.drop n) x
    rwa [List.take_append_drop, List.length_take_of_le hn] at happend
  · have hle := Nat.le_of_not_le hn
    rw [List.take_of_length_le hle, List.drop_of_length_le hle, evalLow_nil, gfMul_zero, gfAdd_zero]

theorem length_addLow (c d : List Byte) : (addLow c d).length = max c.length d.length := by
  induction c generalizing d with
  | nil => cases d <;> simp [addLow]
  | cons a c ih => cases d <;> simp [addLow, ih]

theorem take_addLow (n : Nat) (c d : List Byte) : (addLow c d).take n = addLow (c.take n) (d.take n) := by
  induction c generalizing n d with
  | nil => cases d <;> cases n <;> simp [addLow]
  | cons a c ih => cases d <;> cases n <;> simp [addLow, ih]

/-- The low part of a product, one coefficient of the first factor taken out. -/
theorem evalLow_take_mulLow_cons (n : Nat) (s : Byte) (S c : List Byte) (x : Byte) :
    evalLow ((mulLow (s :: S) c).take (n + 1)) x =
      gfAdd (gfMul s (evalLow (c.take (n + 1)) x)) (gfMul (evalLow ((mulLow S c).take n) x) x) := by
  rw [mulLow, take_addLow, evalLow_addLow, List.take_succ_cons, evalLow_cons, zero_gfAdd, ← List.map_take,
    evalLow_map_gfMul]

/-! ### Division by `x + a` and the formal derivative -/

/-- The quotient of `v + x*c` by `x + a`, whatever `v` is; the remainder is the value at `a`. -/
def quotLow (a : Byte) : List Byte → List Byte
  | [] => []
  | b :: c => evalLow (b :: c) a :: quotLow a c

theorem length_quotLow (a : Byte) (c : List Byte) : (quotLow a c).length = c.length := by
  induction c with
  | nil => rfl
  | cons b c ih => rw [quotLow, List.length_cons, ih, List.length_cons]

/-- One more coefficient below: what stands above is divided on. -/
theorem gfAdd_division_step (v x a p q : Byte) :
    gfAdd v (gfMul (gfAdd p (gfMul (gfAdd x a) q)) x) =
      gfAdd (gfAdd v (gfMul p a)) (gfMul (gfAdd x a) (gfAdd p (gfMul q x))) := by
  have hcancel : gfAdd (gfMul p a) (gfAdd (gfMul x p) (gfMul a p)) = gfMul p x := by
    rw [gfMul_comm a p, gfMul_comm x p, gfAdd_comm (gfMul p x), gfAdd_cancel_left]
  rw [gfMul_add_left, gfMul_add_right (gfAdd x a), gfMul_add_left x a p, gfAdd_assoc v, ← gfAdd_assoc (gfMul p a),
    hcancel, gfMul_assoc]

theorem evalLow_eq_quotLow (a v : Byte) (c : List Byte) (x : Byte) :
    evalLow (v :: c) x = gfAdd (evalLow (v :: c) a) (gfMul (gfAdd x a) (evalLow (quotLow a c) x)) := by
  induction c generalizing v with
  | nil => rw [quotLow, evalLow_nil, gfMul_zero, gfAdd_zero, evalLow_cons, evalLow_cons, evalLow_nil, evalLow_nil,
      zero_gfMul, zero_gfMul]
  | cons b c ih =>
    rw [evalLow_cons v, ih b, evalLow_cons v, quotLow, evalLow_cons (evalLow (b :: c) a), gfAdd_division_step]

/-- The derivative of a product with `x`. -/
theorem evalLow_derivative_cons (v : Byte) (c : List Byte) (x : Byte) :
    evalLow (derivative (v :: c)) x = gfAdd (evalLow c x) (gfMul (evalLow (derivative c) x) x) := by
  have hzero : gfAdd 0 (gfMul 0 x) = 0 := by rw [zero_gfMul, gfAdd_self]
  induction c generalizing v with
  | nil => exact hzero.symm
  | cons b c ih =>
    cases c with
    | nil => exact ((congrArg (gfAdd _) (zero_gfMul x)).trans (gfAdd_zero _)).symm
    | cons d c =>
      have htwo : derivative (v :: b :: d :: c) = b :: 0 :: derivative (d :: c) := rfl
      rw [htwo, ih b, evalLow_cons b, evalLow_cons b, evalLow_cons 0, zero_gfAdd, gfMul_add_left, gfAdd_assoc,
        gfAdd_cancel_left]

theorem evalLow_derivative_eq (c : List Byte) (x : Byte) :
    evalLow (derivative c) x = gfAdd (evalLow c.tail x) (gfMul (evalLow (derivative c.tail) x) x) := by
  cases c with
  | nil => exact ((congrArg (gfAdd 0) (zero_gfMul x)).trans (gfAdd_self 0)).symm
  | cons v c => exact evalLow_derivative_cons v c x

/-- At `a` the quotient by `x + a` is the derivative. -/
theorem evalLow_derivative (v : Byte) (c : List Byte) (a : Byte) :
    evalLow (derivative (v :: c)) a = evalLow (quotLow a c) a := by
  induction c generalizing v with
  | nil => rfl
  | cons b c ih => rw [evalLow_derivative_cons, quotLow, evalLow_cons (evalLow (b :: c) a), ih]

/-! ### Roots -/

theorem gfMul_eq_zero_of_ne_zero {a b : Byte} (ha : a ≠ 0) (h : gfMul a b = 0) : b = 0 := by
  rw [← one_gfMul b, ← gfMul_gfInv ha, gfMul_comm a, gfMul_assoc, h, gfMul_zero]


/-- A polynomial with as many roots as coefficients is 0 everywhere. -/
theorem evalLow_eq_zero_of_roots {c zs : List Byte} (hlen : c.length ≤ zs.length) (hzs : zs.Nodup)
    (hroots : ∀ z ∈ zs, evalLow c z = 0) (x : Byte) : evalLow c x = 0 := by
  induction zs generalizing c x with
  | nil => rw [List.eq_nil_of_length_eq_zero (Nat.le_zero.mp hlen), evalLow_nil]
  | cons z zs ih =>
    cases c with
    | nil => rfl
    | cons v c =>
      obtain ⟨hz, hzs⟩ := List.nodup_cons.mp hzs
      obtain ⟨hroot, hroots⟩ := List.forall_mem_cons.mp hroots
      have hquot : ∀ z' ∈ zs, evalLow (quotLow z c) z' = 0 := by
        intro z' hz'
        have hdivide := evalLow_eq_quotLow z v c z'
        rw [hroots z' hz', hroot, zero_gfAdd] at hdivide
        exact (gfMul_eq_zero_of_ne_zero (gfAdd_ne_zero_of_not_mem hz hz') hdivide.symm)
      rw [evalLow_eq_quotLow z, hroot, ih (length_quotLow z c ▸ Nat.le_of_succ_le_succ hlen) hzs hquot, gfMul_zero,
        gfAdd_zero]

end Sys2Proof.Machine
end

section
/-!
Sums of the bytes of an error, each times a function of its locator. The syndromes are the sums with the powers, and
what the reference algorithm of spec/43_reed_solomon.md R190 makes of the syndromes are sums with other functions.
-/

namespace Sys2Proof.Machine

/-- The sum of the bytes of `e`, each times `f` of its locator. -/
def moment (f : Byte → Byte) (xs e : List Byte) : Byte := gfSum (scaled f xs e)

theorem powerSum_eq_moment (xs e : List Byte) (j : Nat) : powerSum xs e j = moment (gfPow · j) xs e := rfl

theorem moment_cons (f : Byte → Byte) (x y : Byte) (xs e : List Byte) :
    moment f (x :: xs) (y :: e) = gfAdd (gfMul y (f x)) (moment f xs e) := rfl

/-- What holds of sums when it holds for one position and is kept by one more. -/
theorem moment_induction {motive : List Byte → List Byte → Prop} (xs e : List Byte) (left : ∀ e, motive [] e)
    (right : ∀ xs, motive xs []) (cons : ∀ x y xs e, motive xs e → motive (x :: xs) (y :: e)) : motive xs e := by
  induction xs generalizing e with
  | nil => exact left e
  | cons x xs ih =>
    cases e with
    | nil => exact right _
    | cons y e => exact cons x y xs e (ih e)

theorem moment_nil_right (f : Byte → Byte) (xs : List Byte) : moment f xs [] = 0 := by cases xs <;> rfl

theorem moment_add (f g : Byte → Byte) (xs e : List Byte) :
    moment (fun x => gfAdd (f x) (g x)) xs e = gfAdd (moment f xs e) (moment g xs e) := by
  induction xs, e using moment_induction with
  | left e => exact (gfAdd_self 0).symm
  | right xs => simp only [moment_nil_right, gfAdd_self]
  | cons x y xs e ih =>
    rw [moment_cons, moment_cons, moment_cons, ih, gfMul_add_right]
    simp only [gfAdd_assoc, gfAdd_left_comm]

theorem moment_mul (k : Byte) (f : Byte → Byte) (xs e : List Byte) :
    moment (fun x => gfMul k (f x)) xs e = gfMul k (moment f xs e) := by
  induction xs, e using moment_induction with
  | left e => exact (gfMul_zero k).symm
  | right xs => simp only [moment_nil_right, gfMul_zero]
  | cons x y xs e ih => rw [moment_cons, moment_cons, ih, gfMul_add_right, gfMul_left_comm]

theorem moment_zero (xs e : List Byte) : moment (fun _ => 0) xs e = 0 := by
  induction xs, e using moment_induction with
  | left e => rfl
  | right xs => exact moment_nil_right _ xs
  | cons x y xs e ih => rw [moment_cons, ih, gfMul_zero, gfAdd_self]

theorem moment_congr {f g : Byte → Byte} {xs e : List Byte}
    (h : ∀ q ∈ List.zip xs e, gfMul q.2 (f q.1) = gfMul q.2 (g q.1)) : moment f xs e = moment g xs e := by
  induction xs generalizing e with
  | nil => rfl
  | cons x xs ih =>
    cases e with
    | nil => rfl
    | cons y e =>
      obtain ⟨hfirst, hrest⟩ := List.forall_mem_cons.mp (List.zip_cons_cons ▸ h)
      rw [moment_cons, moment_cons, ih hrest, hfirst]

theorem moment_congr_left {f g : Byte → Byte} {xs : List Byte} (e : List Byte) (h : ∀ x ∈ xs, f x = g x) :
    moment f xs e = moment g xs e :=
  moment_congr fun q hq => by rw [h q.1 (List.of_mem_zip hq).1]

/-- Sums over scaled bytes are sums with the products. -/
theorem moment_scaled (f g : Byte → Byte) (xs e : List Byte) :
    moment g xs (scaled f xs e) = moment (fun x => gfMul (f x) (g x)) xs e := by
  induction xs, e using moment_induction with
  | left e => rfl
  | right xs => cases xs <;> rfl
  | cons x y xs e ih => rw [scaled_cons, moment_cons, moment_cons, ih, gfMul_assoc]

/-- A sum in which one position alone counts. -/
theorem moment_eq_single {f : Byte → Byte} {xs e : List Byte} {x y : Byte} (hxs : xs.Nodup)
    (hmem : (x, y) ∈ List.zip xs e) (h : ∀ q ∈ List.zip xs e, q.1 ≠ x → gfMul q.2 (f q.1) = 0) :
    moment f xs e = gfMul y (f x) := by
  induction xs generalizing e with
  | nil => cases hmem
  | cons z xs ih =>
    cases e with
    | nil => cases hmem
    | cons v e =>
      obtain ⟨hz, hxs⟩ := List.nodup_cons.mp hxs
      rw [List.zip_cons_cons] at hmem h
      obtain ⟨hfirst, hrest⟩ := List.forall_mem_cons.mp h
      rw [moment_cons]
      rcases List.mem_cons.mp hmem with heq | hmem
      · obtain ⟨rfl, rfl⟩ := Prod.mk.inj heq
        have hothers : moment f xs e = moment (fun _ => 0) xs e := moment_congr fun q hq => by
          have hne : q.1 ≠ x := fun heq => hz (heq ▸ (List.of_mem_zip hq).1)
          rw [hrest q hq hne, gfMul_zero]
        rw [hothers, moment_zero, gfAdd_zero]
      · have hne : z ≠ x := fun heq => hz (heq ▸ (List.of_mem_zip hmem).1)
        rw [hfirst hne, zero_gfAdd]
        exact ih hxs hmem hrest

/-! ### Few positions and many sums that are 0 -/

theorem gfMul_ne_zero {a b : Byte} (ha : a ≠ 0) (hb : b ≠ 0) : gfMul a b ≠ 0 :=
  mt (gfMul_eq_zero_of_ne_zero ha) hb

theorem gfPow_ne_zero {a : Byte} (ha : a ≠ 0) (n : Nat) : gfPow a n ≠ 0 := by
  induction n with
  | zero => exact (by decide : (1 : Byte) ≠ 0)
  | succ n ih => exact gfMul_ne_zero ih ha

theorem weight_eq_zero_iff {e : List Byte} : weight e = 0 ↔ ∀ y ∈ e, y = 0 := by
  simp [weight, List.countP_eq_zero]

/-- Where the sums with `f` times `n` powers in a row are 0, for an error of weight at most `n`, `f` is 0 at every
error. -/
theorem eq_zero_of_moments {f : Byte → Byte} {xs e : List Byte} {a n : Nat} (hxs : xs.Nodup) (hne : ∀ x ∈ xs, x ≠ 0)
    (hlen : e.length = xs.length) (hw : weight e ≤ n)
    (hsum : ∀ k, a ≤ k → k < a + n → moment (fun x => gfMul (f x) (gfPow x k)) xs e = 0) :
    ∀ q ∈ List.zip xs e, gfMul q.2 (f q.1) = 0 := by
  have hzero : weight (scaled (fun x => gfMul (f x) (gfPow x a)) xs e) = 0 := by
    refine weight_eq_zero_of_powerSum hxs (length_scaled _ hlen) ((weight_scaled_le _ _ _).trans hw) fun j hj => ?_
    rw [powerSum_eq_moment, moment_scaled]
    simp only [gfMul_assoc, ← gfPow_add]
    exact hsum (a + j) (Nat.le_add_right a j) (Nat.add_lt_add_left hj a)
  intro q hq
  have hentry : gfMul q.2 (gfMul (f q.1) (gfPow q.1 a)) ∈ scaled (fun x => gfMul (f x) (gfPow x a)) xs e := by
    rw [scaled, ← List.map_uncurry_zip_eq_zipWith]
    exact List.mem_map_of_mem (f := Function.uncurry _) hq
  have hprod := weight_eq_zero_iff.mp hzero _ hentry
  rw [← gfMul_assoc, gfMul_comm] at hprod
  exact gfMul_eq_zero_of_ne_zero (gfPow_ne_zero (hne q.1 (List.of_mem_zip hq).1) a) hprod

end Sys2Proof.Machine
end

section
/-!
The recurrence search of spec/43_reed_solomon.md R190 step 2 on the syndromes of an error. A recurrence with
polynomial `c` applied to the sums with the powers is the sum with `c(1/x)` times a power; so the recurrence generates
the syndromes as long as these sums are 0, and the length it needs is at most the weight of the error.
-/

namespace Sys2Proof.Machine

/-! ### Recurrences on the sums -/

theorem gfSum_eq_zero {l : List Byte} (h : ∀ v ∈ l, v = 0) : gfSum l = 0 := by
  induction l with
  | nil => rfl
  | cons v l ih =>
    obtain ⟨hv, hl⟩ := List.forall_mem_cons.mp h
    rw [gfSum_cons, hv, ih hl, gfAdd_self]

/-- The recurrence `c` applied to the sums with the powers up to `k`. -/
def recurrenceSum (c xs e : List Byte) (k : Nat) : Byte :=
  moment (fun x => gfMul (evalLow c (gfInv x)) (gfPow x k)) xs e

theorem gfPow_gfInv_mul {x : Byte} (hx : x ≠ 0) (n : Nat) : gfMul (gfPow (gfInv x) n) (gfPow x n) = 1 := by
  induction n with
  | zero => exact gfMul_one 1
  | succ n ih =>
    rw [gfPow_succ, gfPow_succ, gfMul_assoc, gfMul_left_comm (gfInv x), gfMul_comm (gfInv x), gfMul_gfInv hx, gfMul_one,
      ih]

section

variable {xs e : List Byte} (hne : ∀ x ∈ xs, x ≠ 0)
include hne

theorem recurrenceSum_cons (a : Byte) (c : List Byte) (k : Nat) :
    recurrenceSum (a :: c) xs e (k + 1) = gfAdd (gfMul a (powerSum xs e (k + 1))) (recurrenceSum c xs e k) := by
  rw [recurrenceSum, recurrenceSum, powerSum_eq_moment, ← moment_mul, ← moment_add]
  refine moment_congr_left e fun x hx => ?_
  rw [evalLow_cons, gfMul_add_left, gfPow_succ, gfMul_assoc (evalLow c _), gfMul_left_comm (gfInv x),
    gfMul_comm (gfInv x), gfMul_gfInv (hne x hx), gfMul_one]

omit hne in
theorem recurrenceSum_nil (k : Nat) : recurrenceSum [] xs e k = 0 := by
  rw [recurrenceSum]
  simp only [evalLow_nil, zero_gfMul, moment_zero]

omit hne in
theorem recurrenceSum_singleton (a : Byte) (k : Nat) : recurrenceSum [a] xs e k = gfMul a (powerSum xs e k) := by
  rw [recurrenceSum, powerSum_eq_moment, ← moment_mul]
  simp only [evalLow_cons, evalLow_nil, zero_gfMul, gfAdd_zero]

/-- The sum of R190 step 2. -/
theorem gfSum_eq_recurrenceSum {c : List Byte} {m k : Nat} (hlen : c.length ≤ m + 1) (hmk : m ≤ k) :
    gfSum ((List.range (m + 1)).map fun i => gfMul (c.getD i 0) (powerSum xs e (k - i))) = recurrenceSum c xs e k := by
  induction c generalizing m k with
  | nil =>
    rw [recurrenceSum_nil]
    refine gfSum_eq_zero fun v hv => ?_
    obtain ⟨i, -, rfl⟩ := List.mem_map.mp hv
    rw [List.getD_nil, zero_gfMul]
  | cons a c ih =>
    rw [List.range_succ_eq_map, List.map_cons, gfSum_cons, List.map_map, List.getD_cons_zero, Nat.sub_zero]
    cases m with
    | zero =>
      obtain rfl : c = [] := List.eq_nil_of_length_eq_zero (Nat.le_zero.mp (Nat.le_of_succ_le_succ hlen))
      rw [recurrenceSum_singleton]
      exact gfAdd_zero _
    | succ m =>
      obtain ⟨k, rfl⟩ : ∃ k', k = k' + 1 := ⟨k - 1, by omega⟩
      have hrest : (List.range (m + 1)).map
            ((fun i => gfMul ((a :: c).getD i 0) (powerSum xs e (k + 1 - i))) ∘ Nat.succ) =
          (List.range (m + 1)).map fun i => gfMul (c.getD i 0) (powerSum xs e (k - i)) :=
        List.map_congr_left fun i _ => by
          rw [Function.comp_apply, List.getD_cons_succ, Nat.succ_eq_add_one, Nat.add_sub_add_right]
      rw [hrest, ih (Nat.le_of_succ_le_succ hlen) (Nat.le_of_succ_le_succ hmk), recurrenceSum_cons hne]

/-- The recurrence of a step: the old one corrected by a multiple of the one before, shifted. -/
theorem recurrenceSum_correct (c b : List Byte) (coef : Byte) {gap k : Nat} (hgap : gap ≤ k) :
    recurrenceSum (addLow c (List.replicate gap 0 ++ b.map (gfMul coef))) xs e k =
      gfAdd (recurrenceSum c xs e k) (gfMul coef (recurrenceSum b xs e (k - gap))) := by
  rw [recurrenceSum, recurrenceSum, recurrenceSum, ← moment_mul, ← moment_add]
  refine moment_congr_left e fun x hx => ?_
  have hpow : gfMul (gfPow (gfInv x) gap) (gfPow x k) = gfPow x (k - gap) := by
    rw [← Nat.sub_add_cancel hgap, gfPow_add, gfMul_left_comm, gfPow_gfInv_mul (hne x hx), gfMul_one,
      Nat.add_sub_cancel]
  rw [evalLow_addLow, evalLow_shift, evalLow_map_gfMul, gfMul_add_left, ← hpow, gfMul_assoc, gfMul_assoc,
    gfMul_left_comm (gfPow _ _) coef, gfMul_left_comm (gfPow _ _) (evalLow b _)]

/-- A recurrence that fails at `n` after it has held from `m` on has found at least `n + 1 - m` errors. -/
theorem lt_of_recurrenceSum_ne_zero {c : List Byte} {m n : Nat} (hxs : xs.Nodup) (hlen : e.length = xs.length)
    (hgenerates : ∀ k, m ≤ k → k < n → recurrenceSum c xs e k = 0) (hfails : recurrenceSum c xs e n ≠ 0) :
    n < m + weight e := by
  by_contra hle
  have hzero := eq_zero_of_moments (a := m) (n := n - m) hxs hne hlen (by omega) fun k hmk hk =>
    hgenerates k hmk (by omega)
  refine hfails ?_
  rw [recurrenceSum, moment_congr (g := fun _ => 0), moment_zero]
  intro q hq
  rw [← gfMul_assoc, hzero q hq, zero_gfMul, gfMul_zero]

end

/-! ### The search (R190 step 2) -/

/-- The state of the search before syndrome `n`; `lb` is the length of the recurrence before the last change of length,
which held until it failed `gap` steps ago. -/
structure MasseyInv (xs e : List Byte) (n lb : Nat) (c : MasseyRun) : Prop where
  lambda_length : c.lambda.length ≤ c.len + 1
  previous_length : c.previous.length ≤ lb + 1
  lambda_zero : evalLow c.lambda 0 = 1
  gap_pos : 0 < c.gap
  lengths : c.gap + lb + c.len = n + 1
  generates : ∀ k, c.len ≤ k → k < n → recurrenceSum c.lambda xs e k = 0
  previous_generates : ∀ k, lb ≤ k → k + c.gap < n → recurrenceSum c.previous xs e k = 0
  previous_fails : c.gap ≤ n → recurrenceSum c.previous xs e (n - c.gap) = c.discrepancy
  discrepancy_ne_zero : c.discrepancy ≠ 0
  len_le : c.len ≤ weight e

theorem masseyInv_start (xs e : List Byte) : MasseyInv xs e 0 0 ⟨[1], [1], 0, 1, 1⟩ :=
  ⟨le_rfl, le_rfl, by decide, Nat.one_pos, rfl, nofun, nofun, nofun, by decide, Nat.zero_le _⟩

namespace MasseyInv

variable {xs e : List Byte} {n lb P : Nat} {c : MasseyRun} (h : MasseyInv xs e n lb c)
include h

theorem discrepancy_eq (hne : ∀ x ∈ xs, x ≠ 0) (hn : n < P) :
    masseyDiscrepancy (powerSums P xs e) n c = recurrenceSum c.lambda xs e n := by
  have hlengths := h.lengths
  have hgap := h.gap_pos
  rw [← gfSum_eq_recurrenceSum hne h.lambda_length (by omega), masseyDiscrepancy]
  refine congrArg gfSum (List.map_congr_left fun i _ => congrArg _ ?_)
  have hi : n - i < (powerSums P xs e).length := by
    rw [length_powerSums]
    omega
  rw [List.getD_eq_getElem _ _ hi, getElem_powerSums]

/-- The recurrence holds at `n` too. -/
theorem keep (hzero : recurrenceSum c.lambda xs e n = 0) : MasseyInv xs e (n + 1) lb { c with gap := c.gap + 1 } := by
  have hlengths := h.lengths
  refine { h with
    gap_pos := Nat.succ_pos _
    lengths := by dsimp only; omega
    generates := fun k hk hkn => ?_
    previous_generates := fun k hk hkn => h.previous_generates k hk (by dsimp only at hkn; omega)
    previous_fails := fun hgap => ?_ }
  · rcases Nat.lt_succ_iff_lt_or_eq.mp hkn with hlt | rfl
    · exact h.generates k hk hlt
    · exact hzero
  · dsimp only at hgap ⊢
    rw [Nat.add_sub_add_right]
    exact h.previous_fails (Nat.le_of_succ_le_succ hgap)

/-- The corrected recurrence. -/
def next (c : MasseyRun) (d : Byte) : List Byte :=
  addLow c.lambda (List.replicate c.gap 0 ++ c.previous.map (gfMul (gfMul d (gfInv c.discrepancy))))

omit h in
theorem masseyStep_eq (S : List Byte) (n : Nat) (c : MasseyRun) :
    masseyStep S c n =
      if masseyDiscrepancy S n c = 0 then { c with gap := c.gap + 1 }
      else if 2 * c.len ≤ n then
        ⟨next c (masseyDiscrepancy S n c), c.lambda, n + 1 - c.len, 1, masseyDiscrepancy S n c⟩
      else { c with lambda := next c (masseyDiscrepancy S n c), gap := c.gap + 1 } := rfl

theorem next_zero (d : Byte) : evalLow (next c d) 0 = 1 := by
  obtain ⟨g, hg⟩ := Nat.exists_eq_succ_of_ne_zero h.gap_pos.ne'
  rw [next, evalLow_addLow, evalLow_shift, h.lambda_zero, hg, gfPow_succ, gfMul_zero, zero_gfMul, gfAdd_zero]

theorem length_next (d : Byte) : (next c d).length ≤ max (c.len + 1) (c.gap + lb + 1) := by
  have hlambda := h.lambda_length
  have hprevious := h.previous_length
  rw [next, length_addLow, List.length_append, List.length_replicate, List.length_map]
  omega

/-- The corrected recurrence generates the sums up to `n`. -/
theorem next_generates (hne : ∀ x ∈ xs, x ≠ 0) {k : Nat} (hk : c.gap + lb ≤ k) (hlen : c.len ≤ k) (hkn : k ≤ n) :
    recurrenceSum (next c (recurrenceSum c.lambda xs e n)) xs e k = 0 := by
  rw [next, recurrenceSum_correct hne _ _ _ (by omega)]
  rcases Nat.lt_or_eq_of_le hkn with hlt | rfl
  · rw [h.generates k hlen hlt, h.previous_generates _ (by omega) (by omega), gfMul_zero, gfAdd_self]
  · rw [h.previous_fails (by omega), gfMul_assoc, gfMul_comm (gfInv _), gfMul_gfInv h.discrepancy_ne_zero, gfMul_one,
      gfAdd_self]

/-- ONE STEP OF THE SEARCH. -/
theorem step (hne : ∀ x ∈ xs, x ≠ 0) (hxs : xs.Nodup) (hlen : e.length = xs.length) (hn : n < P) :
    ∃ lb', MasseyInv xs e (n + 1) lb' (masseyStep (powerSums P xs e) c n) := by
  have hlengths := h.lengths
  have hgap := h.gap_pos
  rw [masseyStep_eq, h.discrepancy_eq hne hn]
  split
  · next hzero => exact ⟨lb, h.keep hzero⟩
  · next hfails =>
    have hweight := lt_of_recurrenceSum_ne_zero hne hxs hlen h.generates hfails
    have hnext := h.length_next (recurrenceSum c.lambda xs e n)
    split
    · next hchange =>
      exact ⟨c.len,
        { lambda_length := by dsimp only; omega
          previous_length := h.lambda_length
          lambda_zero := h.next_zero _
          gap_pos := Nat.one_pos
          lengths := by dsimp only; omega
          generates := fun k hk hkn => h.next_generates hne (by dsimp only at hk; omega)
            (by dsimp only at hk; omega) (Nat.le_of_lt_succ hkn)
          previous_generates := fun k hk hkn => h.generates k hk (Nat.lt_of_succ_lt_succ hkn)
          previous_fails := fun _ => rfl
          discrepancy_ne_zero := hfails
          len_le := by dsimp only; omega }⟩
    · next hkeep =>
      exact ⟨lb,
        { lambda_length := by dsimp only; omega
          previous_length := h.previous_length
          lambda_zero := h.next_zero _
          gap_pos := Nat.succ_pos _
          lengths := by dsimp only; omega
          generates := fun k hk hkn => h.next_generates hne (by dsimp only at hk; omega) hk (Nat.le_of_lt_succ hkn)
          previous_generates := fun k hk hkn => h.previous_generates k hk (by dsimp only at hkn; omega)
          previous_fails := fun hle => by
            dsimp only at hle ⊢
            rw [Nat.add_sub_add_right]
            exact h.previous_fails (Nat.le_of_succ_le_succ hle)
          discrepancy_ne_zero := h.discrepancy_ne_zero
          len_le := h.len_le }⟩

end MasseyInv

/-- THE SEARCH over all the syndromes of an error. -/
theorem masseyInv_locator {xs e : List Byte} (P : Nat) (hne : ∀ x ∈ xs, x ≠ 0) (hxs : xs.Nodup)
    (hlen : e.length = xs.length) : ∃ lb, MasseyInv xs e P lb (masseyLocator (powerSums P xs e)) := by
  have hprefix : ∀ n ≤ P, ∃ lb, MasseyInv xs e n lb
      ((List.range n).foldl (masseyStep (powerSums P xs e)) ⟨[1], [1], 0, 1, 1⟩) := by
    intro n hn
    induction n with
    | zero => exact ⟨0, masseyInv_start xs e⟩
    | succ n ih =>
      obtain ⟨lb, h⟩ := ih (Nat.le_of_succ_le hn)
      rw [List.range_succ, List.foldl_append, List.foldl_cons, List.foldl_nil]
      exact h.step hne hxs hlen hn
  rw [masseyLocator, length_powerSums]
  exact hprefix P le_rfl

end Sys2Proof.Machine
end

section
/-!
The roots of the locator polynomial and the error values of spec/43_reed_solomon.md R190 steps 3 and 4: at an error the
evaluator is the error byte times the derivative, so the algorithm gives the codeword that `rs_correct` gives.
-/

namespace Sys2Proof.Machine

/-! ### The evaluator polynomial -/

/-- The value at `z` of the low `n` coefficients of the product of the powers of `x` with `c`. -/
def powersTimes (c : List Byte) (z x : Byte) : Nat → Byte
  | 0 => 0
  | n + 1 => gfAdd (evalLow (c.take (n + 1)) z) (gfMul (gfMul z x) (powersTimes c z x n))

/-- The low part of the product of a list of sums with a polynomial is one sum. -/
theorem evalLow_take_mulLow (c xs e : List Byte) (z : Byte) (n : Nat) (g : Byte → Byte) :
    evalLow ((mulLow ((List.range n).map fun k => moment (fun x => gfMul (g x) (gfPow x k)) xs e) c).take n) z =
      moment (fun x => gfMul (g x) (powersTimes c z x n)) xs e := by
  induction n generalizing g with
  | zero =>
    simp only [powersTimes, gfMul_zero, moment_zero]
    rfl
  | succ n ih =>
    have hshift : (List.range n).map ((fun k => moment (fun x => gfMul (g x) (gfPow x k)) xs e) ∘ Nat.succ) =
        (List.range n).map fun k => moment (fun x => gfMul (gfMul (g x) x) (gfPow x k)) xs e := by
      refine List.map_congr_left fun k _ => congrArg (fun f => moment f xs e) (funext fun x => ?_)
      rw [Nat.succ_eq_add_one, gfPow_succ, gfMul_comm (gfPow x k), gfMul_assoc]
    rw [List.range_succ_eq_map, List.map_cons, List.map_map, hshift, evalLow_take_mulLow_cons, ih, gfMul_comm _ z,
      ← moment_mul, gfMul_comm _ (evalLow _ _), ← moment_mul, ← moment_add]
    refine congrArg (fun f => moment f xs e) (funext fun x => ?_)
    rw [gfPow_zero, gfMul_one, powersTimes, gfMul_add_right, gfMul_comm (evalLow _ _), gfMul_left_comm z, gfMul_assoc,
      gfMul_assoc, gfMul_left_comm z]

/-- The evaluator of R190 as a sum over the error. -/
theorem evalLow_evaluator (c xs e : List Byte) (z : Byte) (P : Nat) :
    evalLow ((mulLow (powerSums P xs e) c).take P) z = moment (fun x => powersTimes c z x P) xs e := by
  have h := evalLow_take_mulLow c xs e z P (fun _ => 1)
  simp only [one_gfMul] at h
  exact h

theorem gfPow_gfMul (a b : Byte) (n : Nat) : gfPow (gfMul a b) n = gfMul (gfPow a n) (gfPow b n) := by
  induction n with
  | zero => exact (gfMul_one 1).symm
  | succ n ih => rw [gfPow_succ, gfPow_succ, gfPow_succ, ih, gfMul_assoc, gfMul_assoc, gfMul_left_comm (gfPow b n)]

theorem evalLow_take_succ (c : List Byte) (n : Nat) (x : Byte) :
    evalLow (c.take (n + 1)) x = gfAdd (evalLow (c.take n) x) (gfMul (c.getD n 0) (gfPow x n)) := by
  induction c generalizing n with
  | nil => rw [List.take_nil, List.take_nil, evalLow_nil, List.getD_nil, zero_gfMul, gfAdd_self]
  | cons a c ih =>
    cases n with
    | zero =>
      rw [List.take_succ_cons, List.take_zero, List.take_zero, evalLow_cons, evalLow_nil, zero_gfMul, gfAdd_zero,
        zero_gfAdd, List.getD_cons_zero, gfPow_zero, gfMul_one]
    | succ n =>
      rw [List.take_succ_cons, List.take_succ_cons, evalLow_cons, evalLow_cons, ih, List.getD_cons_succ, gfPow_succ,
        gfMul_add_left, gfAdd_assoc, gfMul_assoc]

theorem geometric_step (a t p s : Byte) :
    gfAdd (gfMul (gfAdd a 1) (gfAdd t p)) (gfMul a (gfAdd t s)) =
      gfAdd (gfAdd t p) (gfAdd (gfMul a s) (gfMul a p)) := by
  simp only [gfMul_add_left, gfMul_add_right, one_gfMul, gfAdd_assoc, gfAdd_comm, gfAdd_left_comm, gfAdd_cancel_left]

/-- The geometric sum of the powers, cut off. -/
theorem powersTimes_eq (c : List Byte) {z x : Byte} (hx : x ≠ 0) (n : Nat) :
    gfMul (gfAdd (gfMul z x) 1) (powersTimes c z x n) =
      gfAdd (evalLow (c.take n) z) (gfMul (gfPow (gfMul z x) n) (evalLow (c.take n) (gfInv x))) := by
  induction n with
  | zero => rw [powersTimes, gfMul_zero, List.take_zero, evalLow_nil, evalLow_nil, gfMul_zero, gfAdd_self]
  | succ n ih =>
    have hpower : gfMul (gfPow (gfMul z x) (n + 1)) (gfPow (gfInv x) n) = gfMul (gfMul z x) (gfPow z n) := by
      rw [gfPow_succ, gfPow_gfMul, gfMul_comm _ (gfMul z x), gfMul_assoc (gfMul z x), gfMul_assoc (gfPow z n),
        gfMul_comm (gfPow x n), gfPow_gfInv_mul hx, gfMul_one]
    rw [powersTimes, gfMul_add_right, gfMul_left_comm (gfAdd _ 1), ih, evalLow_take_succ, evalLow_take_succ]
    rw [geometric_step, gfMul_add_right, gfMul_left_comm (gfPow _ (n + 1)), hpower, gfPow_succ,
      gfMul_comm _ (gfMul z x), gfMul_assoc (gfMul z x), gfMul_left_comm (c.getD n 0)]

/-- A root at another locator adds nothing. -/
theorem powersTimes_eq_zero {c : List Byte} {z x : Byte} {n : Nat} (hx : x ≠ 0) (hzx : gfMul z x ≠ 1)
    (hlen : c.length ≤ n) (hz : evalLow c z = 0) (hroot : evalLow c (gfInv x) = 0) : powersTimes c z x n = 0 := by
  have h := powersTimes_eq c (z := z) hx n
  rw [List.take_of_length_le hlen, hz, hroot, gfMul_zero, gfAdd_zero] at h
  exact gfMul_eq_zero_of_ne_zero (mt gfAdd_eq_zero_iff.mp hzx) h

/-- At the locator itself the sum is the derivative. -/
theorem powersTimes_eq_derivative {c : List Byte} {z x : Byte} {n : Nat} (hzx : gfMul z x = 1) (hlen : c.length ≤ n)
    (hz : evalLow c z = 0) : powersTimes c z x n = gfMul z (evalLow (derivative c) z) := by
  have hrest : ∀ m, gfAdd (powersTimes c z x m) (gfMul (gfPow z (m + 1)) (evalLow (derivative (c.drop m)) z)) =
      gfMul z (evalLow (derivative c) z) := by
    intro m
    induction m with
    | zero => rw [powersTimes, zero_gfAdd, List.drop_zero, gfPow_succ, gfPow_zero, one_gfMul]
    | succ m ih =>
      have hcut : evalLow (c.take (m + 1)) z = gfMul (gfPow z (m + 1)) (evalLow (c.drop (m + 1)) z) := by
        have hsplit := evalLow_take_drop (m + 1) c z
        rw [hz] at hsplit
        exact gfAdd_eq_zero_iff.mp hsplit.symm
      rw [← ih, evalLow_derivative_eq (c.drop m), List.tail_drop, powersTimes, hzx, one_gfMul, hcut, gfMul_add_right,
        gfPow_succ z (m + 1), gfMul_assoc, gfMul_comm _ z]
      simp only [gfAdd_assoc, gfAdd_left_comm]
  have hlast := hrest n
  rw [List.drop_of_length_le hlen] at hlast
  rw [← hlast]
  exact (congrArg (gfAdd _) (gfMul_zero _)).trans (gfAdd_zero _) |>.symm

end Sys2Proof.Machine
end

section
/-!
The reference algorithm of spec/43_reed_solomon.md R190 computes `rs_correct`. What it answers is a codeword that
differs from its input at roots of the locator polynomial alone, which are few; and where a codeword is near enough, the
roots are exactly the locators of the errors and Forney's formula gives their values.
-/

namespace Sys2Proof.Machine

/-! ### What the algorithm changes -/

/-- A position is a root of the locator polynomial (R190 step 3). -/
def isRoot (lambda : List Byte) (x : Byte) : Bool := decide (evalLow lambda (gfInv x) = 0)

theorem isRoot_iff {lambda : List Byte} {x : Byte} : isRoot lambda x = true ↔ evalLow lambda (gfInv x) = 0 :=
  decide_eq_true_iff

/-- Only the bytes at roots are changed. -/
theorem forneyCorrect_near {lambda omega xs r c : List Byte} (hlen : r.length = xs.length)
    (h : forneyCorrect lambda omega xs r = some c) :
    c.length = r.length ∧ hammingDist r c ≤ (xs.filter (isRoot lambda)).length := by
  induction xs generalizing r c with
  | nil =>
    obtain rfl := List.eq_nil_of_length_eq_zero hlen
    cases h
    exact ⟨rfl, Nat.le_refl 0⟩
  | cons x xs ih =>
    obtain ⟨b, r, rfl⟩ := List.exists_cons_of_length_eq_add_one hlen
    rw [forneyCorrect] at h
    split at h
    · cases h
    · next c' hc' =>
      obtain ⟨hlen', hdist⟩ := ih (Nat.succ_inj.mp hlen) hc'
      rw [hammingDist_eq_weight] at hdist ⊢
      split at h
      · next hroot =>
        split at h
        · cases h
        · cases h
          rw [List.filter_cons_of_pos (isRoot_iff.mpr hroot), List.zipWith_cons_cons]
          exact ⟨congrArg (· + 1) hlen', (weight_cons_le _ _).trans (Nat.succ_le_succ hdist)⟩
      · next hroot =>
        cases h
        rw [List.filter_cons_of_neg (mt isRoot_iff.mp hroot), List.zipWith_cons_cons, gfAdd_self, weight_cons_zero]
        exact ⟨congrArg (· + 1) hlen', hdist⟩

/-- With the right value at every root the error is taken out. -/
theorem forneyCorrect_eq {lambda omega xs r e : List Byte} (hr : r.length = xs.length) (he : e.length = xs.length)
    (hvalue : ∀ q ∈ List.zip xs e, evalLow lambda (gfInv q.1) = 0 → forneyValue lambda omega q.1 = some q.2)
    (hother : ∀ q ∈ List.zip xs e, evalLow lambda (gfInv q.1) ≠ 0 → q.2 = 0) :
    forneyCorrect lambda omega xs r = some (List.zipWith gfAdd r e) := by
  induction xs generalizing r e with
  | nil =>
    obtain rfl := List.eq_nil_of_length_eq_zero hr
    rfl
  | cons x xs ih =>
    obtain ⟨b, r, rfl⟩ := List.exists_cons_of_length_eq_add_one hr
    obtain ⟨y, e, rfl⟩ := List.exists_cons_of_length_eq_add_one he
    rw [List.zip_cons_cons] at hvalue hother
    obtain ⟨hvalue, hvalues⟩ := List.forall_mem_cons.mp hvalue
    obtain ⟨hother, hothers⟩ := List.forall_mem_cons.mp hother
    rw [forneyCorrect, ih (Nat.succ_inj.mp hr) (Nat.succ_inj.mp he) hvalues hothers, List.zipWith_cons_cons]
    dsimp only
    split
    · next hroot => rw [hvalue hroot]
    · next hroot => rw [show y = 0 from hother hroot, gfAdd_zero]

/-! ### Roots and errors -/

/-- When every error is at a root there are at least as many roots; when there are no more, every root is an error. -/
theorem weight_le_roots {p : Byte → Bool} {xs e : List Byte} (hlen : e.length = xs.length)
    (h : ∀ q ∈ List.zip xs e, q.2 ≠ 0 → p q.1 = true) :
    weight e ≤ (xs.filter p).length ∧
      ((xs.filter p).length ≤ weight e → ∀ q ∈ List.zip xs e, p q.1 = true → q.2 ≠ 0) := by
  induction xs generalizing e with
  | nil =>
    obtain rfl := List.eq_nil_of_length_eq_zero hlen
    exact ⟨Nat.le_refl 0, fun _ => nofun⟩
  | cons x xs ih =>
    obtain ⟨y, e, rfl⟩ := List.exists_cons_of_length_eq_add_one hlen
    rw [List.zip_cons_cons] at h ⊢
    obtain ⟨hfirst, hrest⟩ := List.forall_mem_cons.mp h
    obtain ⟨hle, honly⟩ := ih (Nat.succ_inj.mp hlen) hrest
    by_cases hy : y = 0
    · subst hy
      rw [weight_cons_zero]
      by_cases hp : p x = true
      · rw [List.filter_cons_of_pos hp, List.length_cons]
        exact ⟨Nat.le_succ_of_le hle, fun hmore => absurd (Nat.lt_of_succ_le hmore) hle.not_gt⟩
      · rw [List.filter_cons_of_neg hp]
        exact ⟨hle, fun hmore => List.forall_mem_cons.mpr ⟨fun hroot => absurd hroot hp, honly hmore⟩⟩
    · rw [weight_cons_of_ne_zero hy, List.filter_cons_of_pos (hfirst hy), List.length_cons]
      exact ⟨Nat.succ_le_succ hle, fun hmore => List.forall_mem_cons.mpr
        ⟨fun _ => hy, honly (Nat.le_of_succ_le_succ hmore)⟩⟩

theorem gfInv_ne_zero {a : Byte} (ha : a ≠ 0) : gfInv a ≠ 0 := fun h => by
  have hone := gfMul_gfInv ha
  rw [h, gfMul_zero] at hone
  exact absurd hone (by decide)

theorem eq_of_gfInv_gfMul {a b : Byte} (ha : a ≠ 0) (h : gfMul (gfInv a) b = 1) : b = a := by
  have hinv := eq_gfInv_of_gfMul_eq_one (gfInv_ne_zero ha) h
  rw [hinv, ← eq_gfInv_of_gfMul_eq_one (gfInv_ne_zero ha) ((gfMul_comm _ _).trans (gfMul_gfInv ha))]

theorem gfInv_injOn {a b : Byte} (ha : a ≠ 0) (hb : b ≠ 0) (h : gfInv a = gfInv b) : a = b :=
  (eq_of_gfInv_gfMul ha (by rw [h, gfMul_comm, gfMul_gfInv hb])).symm

section

variable {lambda xs : List Byte} (hxs : xs.Nodup) (hne : ∀ x ∈ xs, x ≠ 0)
include hxs hne

theorem nodup_inverseRoots : ((xs.filter (isRoot lambda)).map gfInv).Nodup := by
  refine List.Nodup.map_on (fun a ha b hb h => ?_) (hxs.filter _)
  exact gfInv_injOn (hne a (List.mem_of_mem_filter ha)) (hne b (List.mem_of_mem_filter hb)) h

omit hxs hne in
theorem evalLow_of_mem_inverseRoots {z : Byte} (hz : z ∈ (xs.filter (isRoot lambda)).map gfInv) :
    evalLow lambda z = 0 := by
  obtain ⟨x, hx, rfl⟩ := List.mem_map.mp hz
  exact isRoot_iff.mp (List.mem_filter.mp hx).2

variable (hlambda : evalLow lambda 0 = 1)
include hlambda

/-- A polynomial that is 1 at 0 has fewer roots than coefficients. -/
theorem roots_lt_length : (xs.filter (isRoot lambda)).length < lambda.length := by
  by_contra hle
  have hzero := evalLow_eq_zero_of_roots (c := lambda) (by rw [List.length_map]; exact Nat.le_of_not_lt hle)
    (nodup_inverseRoots hxs hne) (fun z => evalLow_of_mem_inverseRoots) 0
  rw [hlambda] at hzero
  exact absurd hzero (by decide)

variable {len : Nat} (hlen : lambda.length ≤ len + 1) (hroots : len ≤ (xs.filter (isRoot lambda)).length)
include hlen hroots

/-- With all its roots found the polynomial has its full degree. -/
theorem getD_ne_zero_of_roots : lambda.getD len 0 ≠ 0 := by
  intro hzero
  have hcut (x : Byte) : evalLow (lambda.take len) x = evalLow lambda x := by
    have hsucc := evalLow_take_succ lambda len x
    rw [List.take_of_length_le hlen, hzero, zero_gfMul, gfAdd_zero] at hsucc
    exact hsucc.symm
  have hnone := evalLow_eq_zero_of_roots (c := lambda.take len)
    (by rw [List.length_map]; exact (List.length_take_le ..).trans hroots)
    (nodup_inverseRoots (lambda := lambda) hxs hne)
    (fun z hz => (hcut z).trans (evalLow_of_mem_inverseRoots hz)) 0
  rw [hcut, hlambda] at hnone
  exact absurd hnone (by decide)

/-- Its roots are simple. -/
theorem derivative_ne_zero {x : Byte} (hroot : evalLow lambda (gfInv x) = 0) :
    evalLow (derivative lambda) (gfInv x) ≠ 0 := by
  intro hzero
  cases lambda with
  | nil => exact absurd hlambda (by decide)
  | cons v c =>
    rw [evalLow_derivative] at hzero
    have hquot : ∀ z ∈ (xs.filter (isRoot (v :: c))).map gfInv, evalLow (quotLow (gfInv x) c) z = 0 := by
      intro z hz
      by_cases hzx : z = gfInv x
      · rw [hzx, hzero]
      · have hdivide := evalLow_eq_quotLow (gfInv x) v c z
        rw [evalLow_of_mem_inverseRoots hz, hroot, zero_gfAdd] at hdivide
        exact gfMul_eq_zero_of_ne_zero (mt gfAdd_eq_zero_iff.mp hzx) hdivide.symm
    have hnone := evalLow_eq_zero_of_roots (c := quotLow (gfInv x) c)
      (by rw [length_quotLow, List.length_map]; exact (Nat.le_of_succ_le_succ hlen).trans hroots)
      (nodup_inverseRoots hxs hne) hquot 0
    rw [evalLow_eq_quotLow (gfInv x), hroot, hnone, gfMul_zero, gfAdd_zero] at hlambda
    exact absurd hlambda (by decide)

end

/-- FORNEY'S FORMULA at the locator of an error. -/
theorem forneyValue_eq {lambda xs e : List Byte} {P : Nat} (hxs : xs.Nodup) (hne : ∀ x ∈ xs, x ≠ 0)
    (hlen : lambda.length ≤ P)
    (herrors : ∀ q ∈ List.zip xs e, q.2 ≠ 0 → evalLow lambda (gfInv q.1) = 0) {x y : Byte}
    (hmem : (x, y) ∈ List.zip xs e) (hroot : evalLow lambda (gfInv x) = 0)
    (hsimple : evalLow (derivative lambda) (gfInv x) ≠ 0) :
    forneyValue lambda ((mulLow (powerSums P xs e) lambda).take P) x = some y := by
  have hx : x ≠ 0 := hne x (List.of_mem_zip hmem).1
  have hinv : gfMul (gfInv x) x = 1 := (gfMul_comm _ _).trans (gfMul_gfInv hx)
  have homega : evalLow ((mulLow (powerSums P xs e) lambda).take P) (gfInv x) =
      gfMul y (gfMul (gfInv x) (evalLow (derivative lambda) (gfInv x))) := by
    rw [evalLow_evaluator, moment_eq_single hxs hmem, powersTimes_eq_derivative hinv hlen hroot]
    intro q hq hother
    by_cases hy : q.2 = 0
    · rw [hy, zero_gfMul]
    · have hq1 : q.1 ≠ 0 := hne q.1 (List.of_mem_zip hq).1
      have hdifferent : gfMul (gfInv x) q.1 ≠ 1 := mt (eq_of_gfInv_gfMul hx) hother
      rw [powersTimes_eq_zero hq1 hdifferent hlen hroot (herrors q hq hy), gfMul_zero]
  rw [forneyValue, if_neg hsimple, homega, gfMul_left_comm y, ← gfMul_assoc x, gfMul_gfInv hx, one_gfMul, gfMul_assoc,
    gfMul_gfInv hsimple, gfMul_one]

/-! ### The whole algorithm (R190) -/

theorem rsReference_eq (P : Nat) (r : List Byte) (m : MasseyRun) (hm : masseyLocator (syndromes P r) = m) :
    rsReference P r =
      if isCodeword P r = true then some r
      else if m.len = 0 ∨ P / 2 < m.len ∨ m.lambda.getD m.len 0 = 0 then none
      else if ((locators r.length).filter (isRoot m.lambda)).length ≠ m.len then none
      else
        (forneyCorrect m.lambda ((mulLow (syndromes P r) m.lambda).take P) (locators r.length) r).bind fun c =>
          if isCodeword P c then some c else none := by
  rw [← hm, rsReference]
  cases forneyCorrect (masseyLocator (syndromes P r)).lambda
    ((mulLow (syndromes P r) (masseyLocator (syndromes P r)).lambda).take P) (locators r.length) r <;> rfl

theorem rsReference_of_isCodeword {P : Nat} {r : List Byte} (h : isCodeword P r = true) : rsReference P r = some r := by
  rw [rsReference_eq P r _ rfl]
  exact if_pos h

/-- What the algorithm answers is the codeword within `floor(P/2)`: the re-check and the number of roots say so. -/
theorem rsCorrect_of_rsReference {P : Nat} {r c : List Byte} (hr : r.length ≤ 255) (h : rsReference P r = some c) :
    rsCorrect P r = some c := by
  by_cases hcode : isCodeword P r = true
  · rw [rsReference_of_isCodeword hcode] at h
    rw [rsCorrect_of_isCodeword hcode, h]
  · rw [rsReference_eq P r _ rfl, if_neg hcode] at h
    split at h
    · cases h
    · next hlen =>
      split at h
      · cases h
      · next hroots =>
        obtain ⟨c', hforney, h⟩ := Option.bind_eq_some_iff.mp h
        split at h
        · next hcheck =>
          cases h
          obtain ⟨hsame, hdist⟩ := forneyCorrect_near (length_locators _).symm hforney
          rw [not_or, not_or] at hlen
          obtain ⟨-, hle, -⟩ := hlen
          rw [not_not.mp hroots] at hdist
          exact (rsCorrect_eq_some_iff hr).mpr ⟨hsame, hcheck, hdist.trans (Nat.le_of_not_lt hle)⟩
        · cases h

theorem locators_ne_zero {n : Nat} (hn : n ≤ 255) {x : Byte} (hx : x ∈ locators n) : x ≠ 0 := by
  obtain ⟨m, hm, rfl⟩ := exists_of_mem_locators hx
  exact alpha_pow_ne_zero (hm.trans_le hn)

/-- Where a codeword is near enough the algorithm finds the error. -/
theorem forneyCorrect_of_error {P : Nat} {xs r e : List Byte} {m : MasseyRun} (hxs : xs.Nodup) (hne : ∀ x ∈ xs, x ≠ 0)
    (hr : r.length = xs.length) (he : e.length = xs.length) (hpos : 0 < weight e) (hw : weight e ≤ P / 2)
    (hm : masseyLocator (powerSums P xs e) = m) :
    m.len = weight e ∧ m.lambda.getD m.len 0 ≠ 0 ∧ (xs.filter (isRoot m.lambda)).length = m.len ∧
      forneyCorrect m.lambda ((mulLow (powerSums P xs e) m.lambda).take P) xs r = some (List.zipWith gfAdd r e) := by
  obtain ⟨lb, hinv⟩ := masseyInv_locator P hne hxs he
  rw [hm] at hinv
  have hlambda := hinv.lambda_length
  have hle := hinv.len_le
  have herrors : ∀ q ∈ List.zip xs e, q.2 ≠ 0 → evalLow m.lambda (gfInv q.1) = 0 := fun q hq hy =>
    gfMul_eq_zero_of_ne_zero hy (eq_zero_of_moments (f := fun x => evalLow m.lambda (gfInv x)) (a := m.len)
      (n := P - m.len) hxs hne he (by omega) (fun k hk hkn => hinv.generates k hk (by omega)) q hq)
  have hfew := roots_lt_length hxs hne hinv.lambda_zero
  obtain ⟨hmany, honly⟩ := weight_le_roots (p := isRoot m.lambda) he fun q hq hy => isRoot_iff.mpr (herrors q hq hy)
  have hcount : (xs.filter (isRoot m.lambda)).length = m.len := by omega
  refine ⟨by omega, getD_ne_zero_of_roots hxs hne hinv.lambda_zero hlambda hcount.ge, hcount,
    forneyCorrect_eq hr he (fun q hq hroot => ?_) fun q hq hother => ?_⟩
  · exact forneyValue_eq hxs hne (by omega) herrors hq hroot
      (derivative_ne_zero hxs hne hinv.lambda_zero hlambda hcount.ge hroot)
  · by_contra hy
    exact hother (herrors q hq hy)

theorem rsReference_of_rsCorrect {P : Nat} {r c : List Byte} (hr : r.length ≤ 255) (h : rsCorrect P r = some c) :
    rsReference P r = some c := by
  by_cases hcode : isCodeword P r = true
  · rw [rsCorrect_of_isCodeword hcode] at h
    rw [rsReference_of_isCodeword hcode, h]
  · obtain ⟨hlen, hc, hdist⟩ := (rsCorrect_eq_some_iff hr).mp h
    have hcancel := zipWith_gfAdd_cancel_left hlen.symm
    have helen : (List.zipWith gfAdd r c).length = r.length := by simp [hlen]
    have hsyndromes : syndromes P r = powerSums P (locators r.length) (List.zipWith gfAdd r c) :=
      (isCodeword_zipWith_gfAdd_iff helen).mp (hcancel.symm ▸ hc)
    have hpos : 0 < weight (List.zipWith gfAdd r c) := Nat.pos_of_ne_zero fun hzero =>
      hcode (eq_of_weight_zipWith_eq_zero hlen.symm hzero ▸ hc)
    rw [hammingDist_eq_weight] at hdist
    rw [rsReference_eq P r _ rfl, if_neg hcode, hsyndromes]
    obtain ⟨hw, hdegree, hroots, hforney⟩ := forneyCorrect_of_error (nodup_locators hr) (fun x => locators_ne_zero hr)
      (length_locators _).symm (helen.trans (length_locators _).symm) hpos hdist rfl
    rw [if_neg, if_neg (not_not.mpr hroots), hforney, hcancel]
    · exact if_pos hc
    · rintro (hzero | hbig | hlow)
      · exact hpos.ne' (hw.symm.trans hzero)
      · exact hbig.not_ge (hw.trans_le hdist)
      · exact hdegree hlow

/-- Settles O41: each of the two answers what the other does. -/
theorem referenceAlgorithmAgrees : Obligations.ReferenceAlgorithmAgrees := by
  intro P r _ hr
  refine Option.ext fun c => ⟨rsCorrect_of_rsReference hr, rsReference_of_rsCorrect hr⟩

end Sys2Proof.Machine
end
